-- ==== Sys2Proof/Word.lean ====
section
/-! DEFINITION. The word types of the JX3: bytes, 16-bit fields, 32-bit uptimes and 3-bit station
addresses. Arithmetic that rounds, wraps, clamps or saturates stands in Machine/Arith.lean. -/

namespace Sys2Proof

/-- One byte of a frame payload (R190). -/
abbrev Byte := BitVec 8

/-- A 16-bit field or value of a frame (R190). -/
abbrev Half := BitVec 16

/-- An uptime in µs: the 32-bit free-running counter of "Conventions, Time"; differences are taken
modulo 2^32. -/
abbrev Time := BitVec 32

/-- A 3-bit source address: 0..6 are stations, 7 is the service address (R22). -/
abbrev Addr := BitVec 3

/-- A driving regime 0..31 (R108). -/
abbrev Regime := Fin 32

/-- A gain page number 0..7 (R136). -/
abbrev PageNo := Fin 8

end Sys2Proof
end

