-- ==== Sys2Proof/Syntax.lean ====
section
/-! DEFINITION. The commands of the block: one constructor of Instr per row of the table of
operations and events, with the operands its rules read. Frame payloads are the typed fields of
chapter 12; an operand `now` is the node's uptime at the event (for a frame, at its end
condition) and `capture` the uptime at the frame's start condition (R35). -/

namespace Sys2Proof

/-- STOP payload (R191): cause and sequence. -/
structure StopPayload where
  cause : Byte
  seq : Byte
  deriving DecidableEq, Repr

/-- VEHICLE payload (R191), in the order of its bytes. -/
structure VehiclePayload where
  seq : Byte
  valid : Bool
  pendingPresent : Bool
  age : Half
  attYaw : Half
  attPitch : Half
  attRoll : Half
  rateYaw : Half
  ratePitch : Half
  rateRoll : Half
  heading : Half
  regime : Byte
  pendingRegime : Byte
  lead : Half
  speed : Half
  roughness : Half
  deriving DecidableEq, Repr

/-- AIM payload (R191). -/
structure AimPayload where
  seq : Byte
  mode : Byte
  yaw : Half
  pitch : Half
  roll : Half
  beta : Half
  deriving DecidableEq, Repr

/-- REPORT payload (R191). `flags` holds bits 9..0 of the flags field; bits 15..10 are 0 (R194). -/
structure ReportPayload where
  seq : Byte
  role : BitVec 4
  state : BitVec 4
  age : Half
  angle : Half
  rate : Half
  offset : Half
  command : Half
  flags : BitVec 10
  hears : BitVec 7
  ramping : Bool
  page : BitVec 3
  regime : Byte
  cause : Byte
  deriving DecidableEq, Repr

/-- COMMAND payload (R191). -/
structure CommandPayload where
  target : BitVec 4
  op : BitVec 4
  seq : Byte
  auth : Half
  deriving DecidableEq, Repr

/-- SETUP payload (R191). -/
structure SetupPayload where
  auth : Half
  target : Byte
  item : Byte
  v1 : Half
  v2 : Half
  v3 : Half
  v4 : Half
  deriving DecidableEq, Repr

/-- QUERY payload (R191). -/
structure QueryPayload where
  target : Byte
  item : BitVec 5
  part : BitVec 3
  deriving DecidableEq, Repr

/-- The eight values v0..v7 of a REPLY (R196). -/
structure ReplyValues where
  v0 : Half
  v1 : Half
  v2 : Half
  v3 : Half
  v4 : Half
  v5 : Half
  v6 : Half
  v7 : Half
  deriving DecidableEq, Repr

/-- REPLY payload (R191, R192). -/
structure ReplyPayload where
  item : BitVec 5
  status : Bool
  part : BitVec 2
  seq : Byte
  values : ReplyValues
  deriving DecidableEq, Repr

/-- The payload of a frame, by its kind (R22, R191). -/
inductive Body where
  | stop (p : StopPayload)
  | vehicle (p : VehiclePayload)
  | aim (p : AimPayload)
  | report (p : ReportPayload)
  | command (p : CommandPayload)
  | setup (p : SetupPayload)
  | query (p : QueryPayload)
  | reply (p : ReplyPayload)
  deriving DecidableEq, Repr

/-- A valid frame: its source address and its payload (R22, R23). -/
structure Frame where
  src : Addr
  body : Body
  deriving DecidableEq, Repr

/-- What a receiver takes off the line between a start condition and an end condition (R23, R35):
`endOk` says that the end condition came exactly after the check. -/
structure RawFrame where
  key : BitVec 6
  length : BitVec 5
  payload : List Byte
  check : Half
  endOk : Bool
  deriving DecidableEq, Repr

/-- The fields of an arriving COMMAND other than its op, which the row names. -/
structure CommandArgs where
  src : Addr
  target : BitVec 4
  seq : Byte
  auth : Half
  deriving DecidableEq, Repr

/-- The fields of an arriving SETUP other than its item code, which the row names. -/
structure SetupArgs where
  src : Addr
  auth : Half
  target : Byte
  v1 : Half
  v2 : Half
  v3 : Half
  v4 : Half
  deriving DecidableEq, Repr

/-- The fields of an arriving QUERY other than its item code, which the row names. -/
structure QueryArgs where
  src : Addr
  target : Byte
  part : BitVec 3
  deriving DecidableEq, Repr

/-- A completed reply of the rate sensor (R61): three signed 24-bit rates in ru, whether its check
agrees, whether its status is good, and whether it is the rest of a reply to a request abandoned
before (R62). DEDUCED, safe: log entry 30. -/
structure SensorReply where
  yaw : BitVec 24
  pitch : BitVec 24
  roll : BitVec 24
  checkOk : Bool
  statusGood : Bool
  abandoned : Bool
  deriving DecidableEq, Repr

/-- What delivers a sample: a completed sensor reply, or the sample timer's expiry (at a joint role
it abandons the request in flight; at a CONSOLE it delivers at once), with the level of the mode
switch at the expiry (R62, R60, R173). -/
inductive SampleTrigger where
  | reply (r : SensorReply)
  | expiry (modeHigh : Bool)
  deriving DecidableEq, Repr

/-- What the self-check tests made inside the part find (R5): the RAM words, the four drive-line
command values as read back, and the transceiver's test frame. -/
structure SelfTestFindings where
  ramOk : Bool
  drivePlusOne : Int
  driveMinusOne : Int
  drivePlusMax : Int
  driveMinusMax : Int
  linkCheckOk : Bool
  linkSameContent : Bool
  deriving DecidableEq, Repr

/-- One of the two lines of a quadrature encoder (R69, R171). -/
inductive QuadLine where
  | a
  | b
  deriving DecidableEq, Repr

/-- A change at a handwheel encoder: of one line, or of both together (R171). -/
inductive QuadChange where
  | one (l : QuadLine)
  | both
  deriving DecidableEq, Repr

/-- The three handwheels of a CONSOLE (R171). -/
inductive Wheel where
  | yaw
  | pitch
  | roll
  deriving DecidableEq, Repr

/-- The two end switches of a joint (R79). -/
inductive EndSwitch where
  | min
  | max
  deriving DecidableEq, Repr

/-- The two buttons of a CONSOLE (R175). -/
inductive Button where
  | engage
  | park
  deriving DecidableEq, Repr

/-- The commands: one constructor per row of spec/opcode_table.json, in the table's order. -/
inductive Instr where
  | fullReset (b0 b1 b2 b3 : Byte) (testHigh : Bool)
  | selfcheckTestEnd (found : SelfTestFindings) (now : Time)
  | ledPhaseTimer
  | sampleTimerExpiry (modeHigh : Bool) (now : Time)
  | rateSensorReply (r : SensorReply) (now : Time)
  | lineRestSeen
  | contend
  | contentionLost
  | contentionWin (now : Time)
  | transmissionSuccess
  | transmitError
  | healthNoisy
  | healthMute
  | healthCleanFromNoisy
  | healthCleanFromMute (f : Frame) (capture now : Time)
  | frameMalformed (raw : RawFrame) (capture now : Time)
  | frameIgnored (f : Frame) (capture now : Time)
  | ownAddressFrame (f : Frame) (capture now : Time)
  | stopFrame (src : Addr) (p : StopPayload) (now : Time)
  | vehicleFrame (src : Addr) (p : VehiclePayload) (capture now : Time)
  | aimFrame (src : Addr) (p : AimPayload) (capture now : Time)
  | reportFrame (src : Addr) (p : ReportPayload) (capture now : Time)
  | commandHome (a : CommandArgs) (now : Time)
  | commandEngage (a : CommandArgs) (now : Time)
  | commandPark (a : CommandArgs) (now : Time)
  | commandClear (a : CommandArgs) (now : Time)
  | commandClearMarks (a : CommandArgs) (now : Time)
  | commandStandby (a : CommandArgs) (now : Time)
  | commandUnknownOp (a : CommandArgs) (op : BitVec 4) (now : Time)
  | setupG1 (a : SetupArgs) (now : Time)
  | setupG2 (a : SetupArgs) (now : Time)
  | setupG3 (a : SetupArgs) (now : Time)
  | setupG4 (a : SetupArgs) (now : Time)
  | setupG5 (a : SetupArgs) (now : Time)
  | setupC1 (a : SetupArgs) (now : Time)
  | setupC2 (a : SetupArgs) (now : Time)
  | setupPageA (n : PageNo) (a : SetupArgs) (now : Time)
  | setupPageB (n : PageNo) (a : SetupArgs) (now : Time)
  | setupDirectory (m : Fin 8) (a : SetupArgs) (now : Time)
  | setupT1 (a : SetupArgs) (now : Time)
  | setupT2 (a : SetupArgs) (now : Time)
  | setupT3 (a : SetupArgs) (now : Time)
  | setupUnknownItem (code : Byte) (a : SetupArgs) (now : Time)
  | commit (a : SetupArgs) (now : Time)
  | queryIdentity (a : QueryArgs) (now : Time)
  | queryNode (a : QueryArgs) (now : Time)
  | queryLink (a : QueryArgs) (now : Time)
  | queryPeerSummary (a : QueryArgs) (now : Time)
  | queryPeer (n : Fin 7) (a : QueryArgs) (now : Time)
  | queryDirectoryMarks (a : QueryArgs) (now : Time)
  | queryPageMarks (a : QueryArgs) (now : Time)
  | queryWorkingContext (a : QueryArgs) (now : Time)
  | queryBias (a : QueryArgs) (now : Time)
  | querySetup (a : QueryArgs) (now : Time)
  | queryUnknownItem (item : BitVec 5) (a : QueryArgs) (now : Time)
  | stopInputFallingEdge (now : Time)
  | wakePinFallingEdge (now : Time)
  | lineStartWake (now : Time)
  | encoderStep (l : QuadLine)
  | illegalTransition (now : Time)
  | indexPulse
  | endSwitchTrip (e : EndSwitch) (now : Time)
  | endSwitchClear (e : EndSwitch)
  | driveFaultAssert (now : Time)
  | driveFaultRelease
  | speedEdge (now : Time)
  | handwheelStep (w : Wheel) (c : QuadChange)
  | engageButtonPress
  | parkButtonPress
  | buttonRelease (b : Button)
  | biasCaptureEnd (tr : SampleTrigger) (now : Time)
  | settlingTimeout (tr : SampleTrigger) (now : Time)
  | sensorMissLimit (tr : SampleTrigger) (now : Time)
  | homeTimeout (tr : SampleTrigger) (now : Time)
  | moveTimeout (tr : SampleTrigger) (now : Time)
  | parkArrival (tr : SampleTrigger) (now : Time)
  | holdExit (tr : SampleTrigger) (now : Time)
  | regimeAnnounce (tr : SampleTrigger) (now : Time)
  | regimeEffect (tr : SampleTrigger) (now : Time)
  | localPendingDue (tr : SampleTrigger) (now : Time)
  | speedTimeout (tr : SampleTrigger) (now : Time)
  | partFreshnessAging (tr : SampleTrigger) (now : Time)
  | blendComplete (tr : SampleTrigger) (now : Time)
  | reacquireComplete (tr : SampleTrigger) (now : Time)
  | strainMark (tr : SampleTrigger) (now : Time)
  | reversalLimit (tr : SampleTrigger) (now : Time)
  deriving DecidableEq, Repr

end Sys2Proof
end

