-- ==== Sys2Proof/Decode.lean ====
section
/-! DEFINITION. Words and commands. The table of operations and events gives no row any bits: the block
has no instruction words, and its commands are events. Frames as the line carries them are decoded
and encoded in Machine/Wire.lean. -/

namespace Sys2Proof

/-- The command a word spells by the table's bits: none for every word, since no row has bits. -/
def decodeTableWord (_nbits _w : Nat) : Option Instr := none

end Sys2Proof
end

