-- ==== Sys2Proof/Config.lean ====
section
/-! DEFINITION. The free values: constants without a body, one for each value the spec leaves open.
Nothing can be proved of them beyond their type, so every statement holds whatever they are. -/

namespace Sys2Proof

/-- Which of two causes raised together is taken first (R15: "in either order"), by the number of
the choice. DESIGN CHOICE, safe: log entry 6. -/
opaque Config.secondCauseFirst : Nat → Bool

/-- The count a handwheel decoder starts from, by the number of the choice (R178: "values as the
decoders start"). DESIGN CHOICE, safe: log entry 7. -/
opaque Config.decoderStart : Nat → Half

/-- Whether an AIM mode byte other than 0 and 1 is taken as RIGID (R191 names 0 and 1 only).
DESIGN CHOICE, safe: log entry 8. -/
opaque Config.modeOther : Byte → Bool

/-- The regime taken from an announced pending regime byte of 32..255 (R149 takes a regime 0..31).
DESIGN CHOICE, safe: log entry 9. -/
opaque Config.pendingOther : Byte → Regime

end Sys2Proof
end

