-- ==== Sys2Proof/Machine/Arith.lean ====
section
/-! DEFINITION. The arithmetic of the conventions: rounding (R1), the three ways of bringing a result
into range (wrap, clamp, saturate), saturating counts (R2) and differences of uptimes. Products and
quotients are formed on the integers, without overflow, and brought into range afterwards (R1). -/

namespace Sys2Proof.Machine

/-- Clamp: hold to lo..hi ("Conventions, Angles"). -/
def clamp (lo hi x : Int) : Int :=
  if x < lo then lo else if hi < x then hi else x

/-- Wrap an angle modulo 65536 into −32768..32767. -/
def wrapAngle (x : Int) : Int := Int.bmod x 65536

/-- The wrapped difference of two angles; half a turn gives −32768. -/
def wrapDiff (x y : Int) : Int := wrapAngle (x - y)

/-- Wrap a yaw fine angle modulo 4,194,304 ("Conventions, Fine angles"). -/
def wrapFine (x : Int) : Int := Int.bmod x 4194304

/-- Clamp a pitch or roll fine angle to ±1,048,576. -/
def clampFine (x : Int) : Int := clamp (-1048576) 1048576 x

/-- Saturate an angle to −32768..32767. -/
def satAngle (x : Int) : Int := clamp (-32768) 32767 x

/-- Saturate to −32767..32767: rates ("Conventions, Rates") and the differences that R116, R119,
R122, R126 and R164 saturate so. -/
def satRate (x : Int) : Int := clamp (-32767) 32767 x

/-- Clamp a line-of-sight angle of pitch or roll to ±16384. -/
def clampSight (x : Int) : Int := clamp (-16384) 16384 x

/-- Truncate a quotient toward zero (R1). -/
def truncDiv (a b : Int) : Int := Int.tdiv a b

/-- Round a quotient toward minus infinity (R1). -/
def floorDiv (a b : Int) : Int := Int.fdiv a b

/-- Round a quotient to nearest, ties away from zero (R1); b is positive. -/
def roundDiv (a b : Int) : Int :=
  if 0 ≤ a then Int.fdiv (2 * a + b) (2 * b) else -(Int.fdiv (2 * (-a) + b) (2 * b))

/-- A count that saturates at its largest value (R2). -/
def satAdd (limit n k : Nat) : Nat := min limit (n + k)

/-- now − then, as a number of µs in 0..2^32 − 1. -/
def elapsed (now since : Time) : Nat := (now - since).toNat

/-- Whether `now` is at or after `due`: (now − due) modulo 2^32 is below 2^31 (R110, R150). -/
def atOrAfter (now due : Time) : Bool := (now - due).toNat < 2147483648

/-- A 16-bit two's-complement field holding x (R190). -/
def field16 (x : Int) : Half := BitVec.ofInt 16 x

/-- A 16-bit unsigned field holding n. -/
def nat16 (n : Nat) : Half := BitVec.ofNat 16 n

/-- A difference of uptimes in µs, saturating at 65535 (R28, R186). -/
def sat16 (n : Nat) : Half := BitVec.ofNat 16 (min 65535 n)

/-- Time remaining to an effect time in µs: 0 when it is due, saturating at 65535 (R28, R186). -/
def remaining (now due : Time) : Half := if atOrAfter now due then 0 else sat16 (elapsed due now)

end Sys2Proof.Machine
end

