-- ==== Sys2Proof/Machine/State.lean ====
section
/-! DEFINITION. The state of one JX3, block by block as "Block overview" lists them, with the queue of
waiting commands, and the machine right after reset. Every field is plain data. Angles are in
counts, rates in ru, times in µs of the node's own uptime. Views that follow from other fields
(hears set, role map, partner case, hold causes, LED levels) are functions of the state, in
Machine/Peers.lean, Machine/Ops.lean and Machine/Flags.lean. -/

namespace Sys2Proof.Machine

/-- Roles by code 0..7 (R3, "Stations and roles"); 0 is a blank part and 7 is invalid. -/
inductive Role where
  | blank
  | base
  | boom
  | pan
  | tilt
  | roll
  | console
  | invalid
  deriving DecidableEq, Repr

/-- Node states (R8). -/
inductive NodeState where
  | selfcheck
  | unassigned
  | setup
  | settling
  | idle
  | homing
  | parked
  | engaged
  | hold
  | parking
  | fault
  | live
  | standby
  deriving DecidableEq, Repr

/-- Fault causes (section 1.7). -/
inductive Cause where
  | endStop
  | drive
  | moveTimeout
  | homeFail
  | encoder
  | sensor
  | unstable
  | roleClash
  | addressClash
  deriving DecidableEq, Repr

/-- Setup errors (section 11, R194). -/
inductive SetupError where
  | none
  | auth
  | state
  | role
  | sequence
  | range
  | incomplete
  | order
  deriving DecidableEq, Repr

/-- Link health (section 2.5). -/
inductive Health where
  | clean
  | noisy
  | mute
  deriving DecidableEq, Repr

/-- Freshness of a part that is present (R47); a part that is ABSENT is held as `none`. -/
inductive Fresh where
  | fresh
  | stale
  | lost
  deriving DecidableEq, Repr

/-- The partner case (R57), and freshness as reported, with ABSENT. -/
inductive Case where
  | absent
  | fresh
  | stale
  | lost
  deriving DecidableEq, Repr

/-- The mode of the aim (R115, R173). -/
inductive Mode where
  | stab
  | rigid
  deriving DecidableEq, Repr

/-- The vehicle-loss state (section 9.3). -/
inductive Loss where
  | tracking
  | frozen
  | reacquiring
  deriving DecidableEq, Repr

/-- Yaw, pitch and roll of one quantity. -/
structure Axes where
  yaw : Int
  pitch : Int
  roll : Int
  deriving DecidableEq, Repr

/-- The zero of three axes. -/
abbrev Axes.zero : Axes := { yaw := 0, pitch := 0, roll := 0 }

/-- The identity record, with the four fuse bytes it was read from (R3, R193). -/
structure Identity where
  fuse0 : Byte
  fuse1 : Byte
  fuse2 : Byte
  fuse3 : Byte
  address : Addr
  role : Role
  auth : Half
  check : Byte
  valid : Bool
  testHigh : Bool
  deriving DecidableEq, Repr

/-- The fault record (section 1.7, R14). The cause set has bit n set for cause code n (R194). -/
structure FaultRecord where
  first : Option Cause
  causes : Half
  later : Nat
  firstUptime : Time
  enteredFrom : Option NodeState
  deriving DecidableEq, Repr

/-- The node controller (sections 1.4 to 1.7, R162). -/
structure NodeCtl where
  state : NodeState
  homed : Bool
  latch : Bool
  record : FaultRecord
  ignored : Nat
  holdExit : Nat
  deriving DecidableEq, Repr

/-- How far self-check has come (R5, R6). -/
inductive CheckStatus where
  | running
  | failed
  | passed
  deriving DecidableEq, Repr

/-- Self-check: the test in progress or failed, test 3's expiries (how many, the first, the latest)
and test 4's requests (how many made, when the last was made, whether a valid reading came). -/
structure SelfCheck where
  test : Nat
  status : CheckStatus
  expiries : Nat
  firstExpiry : Time
  lastExpiry : Time
  requests : Nat
  requestTime : Time
  readingSeen : Bool
  deriving DecidableEq, Repr

/-- A frame held in a transmit slot, with the sample time and the effect time given with it (R28). -/
structure TxFrame where
  body : Body
  sampleTime : Time
  effectTime : Option Time
  deriving DecidableEq, Repr

/-- A transmit slot (R24): the attempt count stands with the frame. -/
inductive Slot where
  | empty
  | armed (f : TxFrame) (attempts : Nat)
  | inFlight (f : TxFrame) (attempts : Nat) (successor : Option TxFrame)
  deriving DecidableEq, Repr

/-- The six slots, in the order of their keys (R27). -/
inductive SlotKind where
  | stop
  | vehicle
  | aim
  | report
  | command
  | reply
  deriving DecidableEq, Repr

/-- The six transmit slots (section 2.2). -/
structure Slots where
  stop : Slot
  vehicle : Slot
  aim : Slot
  report : Slot
  command : Slot
  reply : Slot
  deriving DecidableEq, Repr

/-- The next sequence number of each kind the node sends (R26). -/
structure Seqs where
  stop : Byte
  vehicle : Byte
  aim : Byte
  report : Byte
  command : Byte
  reply : Byte
  deriving DecidableEq, Repr

/-- What the link-activity pins show (R40). -/
inductive Activity where
  | idle
  | contending
  | sending
  | receiving
  deriving DecidableEq, Repr

/-- The line as the link controller holds it: not yet seen at rest after a full reset or wake, idle,
or busy with a frame (R27). -/
inductive LineState where
  | unready
  | idle
  | busy
  deriving DecidableEq, Repr

/-- The link controller (chapter 2). The six counters run modulo 65536 (R41). -/
structure Link where
  slots : Slots
  seqs : Seqs
  health : Health
  errors : Nat
  successRun : Nat
  receptionRun : Nat
  txOk : Half
  txError : Half
  rxOk : Half
  rxError : Half
  superseded : Half
  dropped : Half
  activity : Activity
  line : LineState
  deriving DecidableEq, Repr

/-- The fields of a peer-table part that is present (R43). -/
structure PeerPart (α : Type) where
  content : α
  capture : Time
  age : Half
  lastSeq : Byte
  fresh : Fresh
  deriving DecidableEq, Repr

/-- An entry of the peer table; a part that is ABSENT is none (R43). -/
structure PeerEntry where
  report : Option (PeerPart ReportPayload)
  vehicle : Option (PeerPart VehiclePayload)
  aim : Option (PeerPart AimPayload)
  missed : Nat
  role : Option (BitVec 4)
  deriving DecidableEq, Repr

/-- The peer table (chapter 3): the entries by address, the partner address, and the addresses of
the selected vehicle and aim parts as of the last own sample (R52). -/
structure Peers where
  entries : Vector PeerEntry 7
  partner : Option (Fin 7)
  selVehicle : Option (Fin 7)
  selAim : Option (Fin 7)
  deriving DecidableEq, Repr

/-- A rate-sensor request in flight: the sample time and the latched count of its expiry (R60, R61). -/
structure Request where
  sampleTime : Time
  count : BitVec 32
  deriving DecidableEq, Repr

/-- An open bias-capture run (R64): anchor, accumulator and run length. -/
structure Run where
  anchor : Axes
  acc : Axes
  n : Nat
  deriving DecidableEq, Repr

/-- How the sample delivered before was formed (R72): its joint angle, whether with the homed flag true and
no index captured since (R85), and the home reference. -/
structure PrevAngle where
  angle : Int
  homed : Bool
  homeRef : BitVec 32
  deriving DecidableEq, Repr

/-- An entry of the sample ring (R73). -/
structure RingEntry where
  rough : Nat
  reversal : Bool
  deriving DecidableEq, Repr

/-- The sensor front end (chapter 4). The sample timer holds the uptime of its start, none while it
is stopped (R60). The ring holds the newest entry first, at most 64. -/
structure Sensor where
  timer : Option Time
  inFlight : Option Request
  lastValid : Axes
  misses : Nat
  bias : Axes
  run : Option Run
  settling : Nat
  biasRough : Bool
  biasNone : Bool
  count : BitVec 32
  illegal : Nat
  homeRef : BitVec 32
  indexArmed : Bool
  prev : Option PrevAngle
  ring : List RingEntry
  deriving DecidableEq, Repr

/-- A home move (section 5.1): search direction (true is +), reversal count, homing count. -/
structure HomeMove where
  up : Bool
  reversals : Nat
  count : Nat
  deriving DecidableEq, Repr

/-- A park move (section 5.1): park count, arrival count. -/
structure ParkMove where
  count : Nat
  arrival : Nat
  deriving DecidableEq, Repr

/-- The drive interface (chapter 5): its outputs (the drive line carries `lastCommand`), its inputs
as last seen and its moves. -/
structure Drive where
  enable : Bool
  brake : Bool
  lastCommand : Int
  minTripped : Bool
  maxTripped : Bool
  driveFault : Bool
  home : Option HomeMove
  park : Option ParkMove
  deriving DecidableEq, Repr

/-- The vehicle reference unit (chapter 6, BASE only). Fine angles are in 1/64 count. -/
structure VehicleRef where
  phi : Axes
  heading : Int
  running : Bool
  prevRaw : Option Axes
  lastSpeed : Option Time
  speed : Nat
  roughSum : Nat
  candidate : Option Regime
  debounce : Nat
  published : Option Regime
  pending : Option (Regime × Time)
  deriving DecidableEq, Repr

/-- The held aim (R115). -/
structure HeldAim where
  aim : Axes
  mode : Mode
  beta : Nat
  deriving DecidableEq, Repr

/-- The correction unit (section 7.1, chapter 9). `rampHalted`, the model's own field, says in FAULT that
the reacquire ramp was under way in the ENGAGED left and goes no further (R14). -/
structure Correction where
  split : Int
  targetPrev : Int
  commandPrev : Int
  demandPrev : Int
  strain : Nat
  sign : Int
  loss : Loss
  offset : Int
  reacquire : Nat
  rampHalted : Bool
  held : HeldAim
  deriving DecidableEq, Repr

/-- Six gains (section 7.4): Kp, Kd, Lr, La, α, ρ. -/
structure GainSet where
  kp : Int
  kd : Int
  lr : Int
  la : Int
  alpha : Int
  rho : Int
  deriving DecidableEq, Repr

/-- Six gains of 0. -/
abbrev GainSet.zero : GainSet := { kp := 0, kd := 0, lr := 0, la := 0, alpha := 0, rho := 0 }

/-- A directory entry (R136). -/
structure DirEntry where
  present : Bool
  page : PageNo
  visited : Bool
  deriving DecidableEq, Repr

/-- A gain page (R136). -/
structure Page where
  present : Bool
  withdrawn : Bool
  used : Bool
  strained : Bool
  gains : GainSet
  deriving DecidableEq, Repr

/-- The gain directory (chapter 8): entries, pages and the working context. -/
structure GainDir where
  entries : Vector DirEntry 32
  pages : Vector Page 8
  regime : Option Regime
  page : Option PageNo
  fromGains : GainSet
  toGains : GainSet
  blend : Nat
  pending : Option (Regime × Time)
  deriving DecidableEq, Repr

/-- The three handwheel counters, or their last values (R171). -/
structure Wheels where
  yaw : Half
  pitch : Half
  roll : Half
  deriving DecidableEq, Repr

/-- The console unit (chapter 10). Button levels are true when pressed. -/
structure Console where
  counters : Wheels
  last : Wheels
  aim : Axes
  mode : Mode
  engageLevel : Bool
  parkLevel : Bool
  deriving DecidableEq, Repr

/-- GEOMETRY item G1 (R182): scale, and whether the sign is −1. -/
structure ItemG1 where
  scale : Nat
  negative : Bool
  deriving DecidableEq, Repr

/-- GEOMETRY item G2: travel window and continuous flag. -/
structure ItemG2 where
  min : Int
  max : Int
  continuous : Bool
  deriving DecidableEq, Repr

/-- GEOMETRY item G3: cushion width and park angle. -/
structure ItemG3 where
  cushion : Nat
  park : Int
  deriving DecidableEq, Repr

/-- GEOMETRY item G4: home angle, home direction (true is decreasing), home rate, park rate. -/
structure ItemG4 where
  homeAngle : Int
  decreasing : Bool
  homeRate : Nat
  parkRate : Nat
  deriving DecidableEq, Repr

/-- CONSOLE item C1: handwheel scales. -/
abbrev ItemC1 := Axes

/-- CONSOLE item C2: pitch and roll aim limits, and β. -/
structure ItemC2 where
  pitchLimit : Nat
  rollLimit : Nat
  beta : Nat
  deriving DecidableEq, Repr

/-- PAGES item P(n)a. -/
structure ItemPageA where
  kp : Nat
  kd : Nat
  lr : Nat
  la : Nat
  deriving DecidableEq, Repr

/-- PAGES item P(n)b. -/
structure ItemPageB where
  alpha : Nat
  rho : Nat
  deriving DecidableEq, Repr

/-- DIRECTORY item D(m): four entries, none for a gap. -/
structure ItemDir where
  d0 : Option PageNo
  d1 : Option PageNo
  d2 : Option PageNo
  d3 : Option PageNo
  deriving DecidableEq, Repr

/-- THRESHOLDS item T1: pulse distance and speed thresholds 1..3. -/
structure ItemT1 where
  pulse : Nat
  s1 : Nat
  s2 : Nat
  s3 : Nat
  deriving DecidableEq, Repr

/-- THRESHOLDS item T2: speed thresholds 4..7. -/
structure ItemT2 where
  s4 : Nat
  s5 : Nat
  s6 : Nat
  s7 : Nat
  deriving DecidableEq, Repr

/-- THRESHOLDS item T3: roughness thresholds 1..3. -/
structure ItemT3 where
  r1 : Nat
  r2 : Nat
  r3 : Nat
  deriving DecidableEq, Repr

/-- The items taken, each with its held values; an item not taken is none (section 11). -/
structure Items where
  g1 : Option ItemG1
  g2 : Option ItemG2
  g3 : Option ItemG3
  g4 : Option ItemG4
  g5 : Option Nat
  c1 : Option ItemC1
  c2 : Option ItemC2
  pageA : Vector (Option ItemPageA) 8
  pageB : Vector (Option ItemPageB) 8
  dir : Vector (Option ItemDir) 8
  t1 : Option ItemT1
  t2 : Option ItemT2
  t3 : Option ItemT3
  deriving DecidableEq, Repr

/-- The setup and query unit (chapter 11). The held geometry, thresholds and console items are in
use exactly while `committed` (R183, R184). The pending query snapshot is the REPLY slot's frame. -/
structure Setup where
  phase : Nat
  items : Items
  lastError : SetupError
  authFailures : Nat
  committed : Bool
  deriving DecidableEq, Repr

/-- The levels of two quadrature lines. -/
structure QuadLevels where
  a : Bool
  b : Bool
  deriving DecidableEq, Repr

/-- Input levels that the blocks read only at some events: the encoder's and handwheels' quadrature
lines and the two buttons (true is pressed). -/
structure Pins where
  encoder : QuadLevels
  wheelYaw : QuadLevels
  wheelPitch : QuadLevels
  wheelRoll : QuadLevels
  engagePressed : Bool
  parkPressed : Bool
  deriving DecidableEq, Repr

/-- One JX3. `ledPhase` is the phase of the LED display of the node state (R10); `choices` numbers
the free choices made so far (the model's own field); `pending` is the queue of waiting commands,
first in, first out (the model's own field). -/
structure State where
  uptime : Time
  ident : Identity
  node : NodeCtl
  check : SelfCheck
  link : Link
  peers : Peers
  sensor : Sensor
  drive : Drive
  vref : VehicleRef
  corr : Correction
  gains : GainDir
  console : Console
  setup : Setup
  pins : Pins
  ledPhase : Nat
  choices : Nat
  pending : List Instr
  deriving DecidableEq, Repr

/-- The block never stops: every event of the table has an effect, or none, in every state, so no
fault is ever raised by a step. -/
inductive Fault where
  deriving DecidableEq, Repr

/-- Reasons for which a command has no meaning. -/
inductive Refusal where
  /-- The command's arm in exec has no meaning yet; raised by exec alone; safe (the model stops). -/
  | notModelled (mnemonic : String)
  deriving DecidableEq, Repr

/-- The outcome of a step. -/
abbrev Outcome := Host.Outcome State Fault Refusal

/-! ### One update per block -/

def State.setUptime (s : State) (x : Time) : State := { s with uptime := x }
def State.setIdent (s : State) (x : Identity) : State := { s with ident := x }
def State.setNode (s : State) (x : NodeCtl) : State := { s with node := x }
def State.setCheck (s : State) (x : SelfCheck) : State := { s with check := x }
def State.setLink (s : State) (x : Link) : State := { s with link := x }
def State.setPeers (s : State) (x : Peers) : State := { s with peers := x }
def State.setSensor (s : State) (x : Sensor) : State := { s with sensor := x }
def State.setDrive (s : State) (x : Drive) : State := { s with drive := x }
def State.setVref (s : State) (x : VehicleRef) : State := { s with vref := x }
def State.setCorr (s : State) (x : Correction) : State := { s with corr := x }
def State.setGains (s : State) (x : GainDir) : State := { s with gains := x }
def State.setConsole (s : State) (x : Console) : State := { s with console := x }
def State.setSetup (s : State) (x : Setup) : State := { s with setup := x }
def State.setPins (s : State) (x : Pins) : State := { s with pins := x }
def State.setLedPhase (s : State) (x : Nat) : State := { s with ledPhase := x }
def State.setChoices (s : State) (x : Nat) : State := { s with choices := x }
def State.setPending (s : State) (x : List Instr) : State := { s with pending := x }

/-! ### Values after a full reset -/

/-- An empty fault record (R4). -/
def FaultRecord.empty : FaultRecord :=
  { first := none, causes := 0, later := 0, firstUptime := 0, enteredFrom := none }

/-- Self-check at its start: test 1 running (R5). -/
def SelfCheck.start : SelfCheck :=
  { test := 1, status := .running, expiries := 0, firstExpiry := 0, lastExpiry := 0,
    requests := 0, requestTime := 0, readingSeen := false }

/-- The six slots EMPTY (R42). -/
def Slots.empty : Slots :=
  { stop := .empty, vehicle := .empty, aim := .empty, report := .empty, command := .empty,
    reply := .empty }

/-- Every sequence at 0 (R26). -/
def Seqs.zero : Seqs := { stop := 0, vehicle := 0, aim := 0, report := 0, command := 0, reply := 0 }

/-- The link controller after a full reset and after a wake (R42). -/
def Link.reset : Link :=
  { slots := Slots.empty, seqs := Seqs.zero, health := .clean, errors := 0, successRun := 0,
    receptionRun := 0, txOk := 0, txError := 0, rxOk := 0, rxError := 0, superseded := 0,
    dropped := 0, activity := .idle, line := .unready }

/-- An empty entry (R43). -/
def PeerEntry.empty : PeerEntry :=
  { report := none, vehicle := none, aim := none, missed := 0, role := none }

/-- The peer table after a full reset and after a wake (R59). -/
def Peers.reset : Peers :=
  { entries := Vector.replicate 7 PeerEntry.empty, partner := none, selVehicle := none,
    selAim := none }

/-- The sensor front end after a full reset, with its timer started at the uptime t (R75). -/
def Sensor.reset (t : Time) : Sensor :=
  { timer := some t, inFlight := none, lastValid := Axes.zero, misses := 0, bias := Axes.zero,
    run := none, settling := 0, biasRough := false, biasNone := false, count := 0, illegal := 0,
    homeRef := 0, indexArmed := false, prev := none, ring := [] }

/-- The drive interface after a full reset, its three input levels as they stand (R94). -/
def Drive.reset (minTripped maxTripped driveFault : Bool) : Drive :=
  { enable := false, brake := true, lastCommand := 0, minTripped := minTripped,
    maxTripped := maxTripped, driveFault := driveFault, home := none, park := none }

/-- The vehicle reference unit after a full reset and after a wake (R113). -/
def VehicleRef.reset : VehicleRef :=
  { phi := Axes.zero, heading := 0, running := false, prevRaw := none, lastSpeed := none,
    speed := 0, roughSum := 0, candidate := none, debounce := 0, published := none,
    pending := none }

/-- The correction unit after a full reset and after a wake (R134, R169). -/
def Correction.reset : Correction :=
  { split := 0, targetPrev := 0, commandPrev := 0, demandPrev := 0, strain := 0, sign := 0,
    loss := .tracking, offset := 0, reacquire := 0, rampHalted := false,
    held := { aim := Axes.zero, mode := .stab, beta := 0 } }

/-- A directory entry not present (R156). -/
def DirEntry.gap : DirEntry := { present := false, page := 0, visited := false }

/-- A page not present (R156). -/
def Page.absent : Page :=
  { present := false, withdrawn := false, used := false, strained := false,
    gains := GainSet.zero }

/-- The gain directory after a full reset (R140, R156). -/
def GainDir.reset : GainDir :=
  { entries := Vector.replicate 32 DirEntry.gap, pages := Vector.replicate 8 Page.absent,
    regime := none, page := none, fromGains := GainSet.zero, toGains := GainSet.zero, blend := 64,
    pending := none }

/-- The console unit after a full reset, its decoders starting at the counts w (R178); its button levels
stand released until LIVE is entered. DESIGN CHOICE, unsafe: log entry 28. -/
def Console.reset (w : Wheels) : Console :=
  { counters := w, last := w, aim := Axes.zero, mode := .stab, engageLevel := false,
    parkLevel := false }

/-- No item taken (R189). -/
def Items.none : Items :=
  { g1 := .none, g2 := .none, g3 := .none, g4 := .none, g5 := .none, c1 := .none, c2 := .none,
    pageA := Vector.replicate 8 .none, pageB := Vector.replicate 8 .none,
    dir := Vector.replicate 8 .none, t1 := .none, t2 := .none, t3 := .none }

/-- The setup and query unit after a full reset (R189). -/
def Setup.reset : Setup :=
  { phase := 1, items := Items.none, lastError := .none, authFailures := 0, committed := false }

/-- The machine right after the full reset of a part as it leaves the fab: its four fuse bytes read
0, so its identity is not valid and, with TEST low, it is UNASSIGNED (R3, R4). Every input rests at
its low, released, clear level. DESIGN CHOICE, unsafe: log entries 1, 2, 3, 7. -/
def State.reset : State :=
  { uptime := 0
    ident := { fuse0 := 0, fuse1 := 0, fuse2 := 0, fuse3 := 0, address := 0, role := .blank,
               auth := 0, check := 0, valid := false, testHigh := false }
    node := { state := .unassigned, homed := false, latch := false, record := FaultRecord.empty,
              ignored := 0, holdExit := 0 }
    check := SelfCheck.start
    link := Link.reset
    peers := Peers.reset
    sensor := Sensor.reset 0
    drive := Drive.reset false false false
    vref := VehicleRef.reset
    corr := Correction.reset
    gains := GainDir.reset
    console := Console.reset { yaw := 0, pitch := 0, roll := 0 }
    setup := Setup.reset
    pins := { encoder := { a := false, b := false }, wheelYaw := { a := false, b := false },
              wheelPitch := { a := false, b := false }, wheelRoll := { a := false, b := false },
              engagePressed := false, parkPressed := false }
    ledPhase := 0
    choices := 0
    pending := [] }

end Sys2Proof.Machine
end

