-- ==== Sys2Proof/Machine/Operands.lean ====
section
/-! DEFINITION. The operand forms: the identity fuses (R3, R193), the code tables (R194), the setup
item codes (R195), the fields of arriving frames as values, and what each role is and has. -/

namespace Sys2Proof.Machine

/-! ### Roles -/

/-- The role of a role code (R3). -/
def roleOfCode (c : BitVec 3) : Role :=
  match c.toNat with
  | 0 => .blank
  | 1 => .base
  | 2 => .boom
  | 3 => .pan
  | 4 => .tilt
  | 5 => .roll
  | 6 => .console
  | _ => .invalid

/-- The code of a role (R194). -/
def roleCode : Role → Nat
  | .blank => 0
  | .base => 1
  | .boom => 2
  | .pan => 3
  | .tilt => 4
  | .roll => 5
  | .console => 6
  | .invalid => 7

/-- The joint roles 1..5 ("Stations and roles"). -/
def isJoint : Role → Bool
  | .base | .boom | .pan | .tilt | .roll => true
  | _ => false

/-- The coarse tier, BASE and BOOM. -/
def isCoarse : Role → Bool
  | .base | .boom => true
  | _ => false

/-- The role of the joint of the other tier on the same axis (R57). -/
def partnerRole : Role → Option Role
  | .base => some .pan
  | .pan => some .base
  | .boom => some .tilt
  | .tilt => some .boom
  | _ => none

/-- The component of a joint's axis: yaw for BASE and PAN, pitch for BOOM and TILT, roll for ROLL
(R116). -/
def axisOf (r : Role) (x : Axes) : Int :=
  match r with
  | .base | .pan => x.yaw
  | .boom | .tilt => x.pitch
  | _ => x.roll

/-- Whether a joint serves the yaw axis (R116). -/
def isYaw : Role → Bool
  | .base | .pan => true
  | _ => false

/-! ### Identity -/

/-- Identity valid (R3): the fuse bytes sum to 255 modulo 256, the role is 1..6, the address 0..6. -/
def identityValid (b0 b1 b2 b3 : Byte) : Bool :=
  (b0.toNat + b1.toNat + b2.toNat + b3.toNat) % 256 == 255
    && (isJoint (roleOfCode (b0.extractLsb' 3 3)) || roleOfCode (b0.extractLsb' 3 3) == .console)
    && (b0.extractLsb' 0 3).toNat ≤ 6

/-- The identity record read from the fuses, with the sampled TEST level (R3, R193). -/
def readIdentity (b0 b1 b2 b3 : Byte) (testHigh : Bool) : Identity :=
  { fuse0 := b0, fuse1 := b1, fuse2 := b2, fuse3 := b3
    address := b0.extractLsb' 0 3
    role := roleOfCode (b0.extractLsb' 3 3)
    auth := b1 ++ b2
    check := b3
    valid := identityValid b0 b1 b2 b3
    testHigh := testHigh }

/-! ### Code tables (R194) -/

/-- The code of a node state. SELFCHECK, UNASSIGNED and STANDBY have none (R8); 15 stands for none. -/
def stateCode : NodeState → Nat
  | .setup => 0
  | .settling => 1
  | .idle => 2
  | .homing => 3
  | .parked => 4
  | .engaged => 5
  | .hold => 6
  | .parking => 7
  | .fault => 8
  | .live => 9
  | .selfcheck | .unassigned | .standby => 15

/-- The code of an entered-from field: 15 for none. -/
def enteredFromCode : Option NodeState → Nat
  | none => 15
  | some st => stateCode st

/-- The code of a fault cause, 1..9. -/
def causeCode : Cause → Nat
  | .endStop => 1
  | .drive => 2
  | .moveTimeout => 3
  | .homeFail => 4
  | .encoder => 5
  | .sensor => 6
  | .unstable => 7
  | .roleClash => 8
  | .addressClash => 9

/-- The code of a first cause: 0 for none. -/
def firstCauseCode : Option Cause → Nat
  | none => 0
  | some c => causeCode c

/-- Bit n of the cause set for cause code n. -/
def causeBit (c : Cause) : Half := 1#16 <<< causeCode c

/-- Whether a cause set holds a cause. -/
def hasCause (set : Half) (c : Cause) : Bool := set.getLsbD (causeCode c)

/-- The code of a setup error. -/
def errorCode : SetupError → Nat
  | .none => 0
  | .auth => 1
  | .state => 2
  | .role => 3
  | .sequence => 4
  | .range => 5
  | .incomplete => 6
  | .order => 7

/-- The code of a freshness or partner case. -/
def caseCode : Case → Nat
  | .absent => 0
  | .fresh => 1
  | .stale => 2
  | .lost => 3

/-- A freshness as a case. -/
def caseOfFresh : Fresh → Case
  | .fresh => .fresh
  | .stale => .stale
  | .lost => .lost

/-- The code of the link health. -/
def healthCode : Health → Nat
  | .clean => 0
  | .noisy => 1
  | .mute => 2

/-- The code of the vehicle-loss state. -/
def lossCode : Loss → Nat
  | .tracking => 0
  | .frozen => 1
  | .reacquiring => 2

/-- The code of the mode: 0 STAB, 1 RIGID (R191). -/
def modeCode : Mode → Nat
  | .stab => 0
  | .rigid => 1

/-! ### Fields of arriving frames -/

/-- The mode of an AIM mode byte: 0 STAB, 1 RIGID (R191). Any other byte: a free value. DESIGN CHOICE, safe: log entry 8. -/
def modeOfByte (b : Byte) : Mode :=
  if b = 0 then .stab
  else if b = 1 then .rigid
  else if Config.modeOther b then .rigid else .stab

/-- A regime byte as a regime 0..31, none for 32..255 (R151). -/
def regimeOfByte (b : Byte) : Option Regime :=
  if h : b.toNat < 32 then some ⟨b.toNat, h⟩ else none

/-- The pending regime a frame announces (R149). A byte of 32..255: a free value. DESIGN CHOICE, safe: log entry 9. -/
def pendingOfByte (b : Byte) : Regime :=
  match regimeOfByte b with
  | some r => r
  | none => Config.pendingOther b

/-- A regime field: 255 while it is none (R111, R131). -/
def regimeByte : Option Regime → Byte
  | none => 255
  | some r => BitVec.ofNat 8 r.val

/-- A station address 0..6 (R43); none for the service address. -/
def stationOf (a : Addr) : Option (Fin 7) :=
  if h : a.toNat < 7 then some ⟨a.toNat, h⟩ else none

/-- The vehicle attitude of a VEHICLE payload, in counts. -/
def payloadAttitude (p : VehiclePayload) : Axes :=
  { yaw := p.attYaw.toInt, pitch := p.attPitch.toInt, roll := p.attRoll.toInt }

/-- The vehicle rates of a VEHICLE payload, in ru. -/
def payloadRates (p : VehiclePayload) : Axes :=
  { yaw := p.rateYaw.toInt, pitch := p.ratePitch.toInt, roll := p.rateRoll.toInt }

/-- The aim of an AIM payload, in counts. -/
def payloadAim (p : AimPayload) : Axes :=
  { yaw := p.yaw.toInt, pitch := p.pitch.toInt, roll := p.roll.toInt }

/-- A sensor reply is valid when its check agrees and its status is good (R61). -/
def replyValid (r : SensorReply) : Bool := r.checkOk && r.statusGood

/-- The rates of a reply, each saturated to −32767..32767 ru as it is taken (R61). -/
def replyRates (r : SensorReply) : Axes :=
  { yaw := satRate r.yaw.toInt, pitch := satRate r.pitch.toInt, roll := satRate r.roll.toInt }

/-! ### Setup items (R195) -/

/-- The setup items by name (R180). -/
inductive ItemName where
  | g1
  | g2
  | g3
  | g4
  | g5
  | c1
  | c2
  | pageA (n : PageNo)
  | pageB (n : PageNo)
  | dir (m : Fin 8)
  | t1
  | t2
  | t3
  | commit
  deriving DecidableEq, Repr

/-- The code of an item (R195). -/
def itemCode : ItemName → Byte
  | .g1 => 1
  | .g2 => 2
  | .g3 => 3
  | .g4 => 4
  | .g5 => 5
  | .c1 => 6
  | .c2 => 7
  | .pageA n => BitVec.ofNat 8 (16 + 2 * n.val)
  | .pageB n => BitVec.ofNat 8 (17 + 2 * n.val)
  | .dir m => BitVec.ofNat 8 (32 + m.val)
  | .t1 => 48
  | .t2 => 49
  | .t3 => 50
  | .commit => 255

/-- The item a code names, none where it names no item at all (R195). -/
def itemOfCode (b : Byte) : Option ItemName :=
  let n := b.toNat
  if n = 1 then some .g1
  else if n = 2 then some .g2
  else if n = 3 then some .g3
  else if n = 4 then some .g4
  else if n = 5 then some .g5
  else if n = 6 then some .c1
  else if n = 7 then some .c2
  else if 16 ≤ n ∧ n < 32 then
    if n % 2 = 0 then some (.pageA (Fin.ofNat 8 ((n - 16) / 2)))
    else some (.pageB (Fin.ofNat 8 ((n - 16) / 2)))
  else if 32 ≤ n ∧ n < 40 then some (.dir (Fin.ofNat 8 (n - 32)))
  else if n = 48 then some .t1
  else if n = 49 then some .t2
  else if n = 50 then some .t3
  else if n = 255 then some .commit
  else none

/-- The roles that have an item (R180). -/
def roleHasItem (r : Role) : ItemName → Bool
  | .g1 | .g2 | .g3 | .g4 | .g5 => isJoint r
  | .c1 | .c2 => r == .console
  | .pageA _ | .pageB _ | .dir _ => isJoint r
  | .t1 | .t2 | .t3 => r == .base
  | .commit => true

/-- The phase of an item: 1 GEOMETRY, 2 PAGES, 3 DIRECTORY, 4 THRESHOLDS (R180). COMMIT belongs to
none; 0 stands for that. -/
def itemPhase : ItemName → Nat
  | .g1 | .g2 | .g3 | .g4 | .g5 | .c1 | .c2 => 1
  | .pageA _ | .pageB _ => 2
  | .dir _ => 3
  | .t1 | .t2 | .t3 => 4
  | .commit => 0

/-! ### The setup in use (R183, R184): the held values once committed -/

/-- Item G1 in use. -/
def geoG1 (s : Setup) : ItemG1 :=
  if s.committed then s.items.g1.getD { scale := 0, negative := false }
  else { scale := 0, negative := false }

/-- Item G2 in use. -/
def geoG2 (s : Setup) : ItemG2 :=
  if s.committed then s.items.g2.getD { min := 0, max := 0, continuous := false }
  else { min := 0, max := 0, continuous := false }

/-- Item G3 in use. -/
def geoG3 (s : Setup) : ItemG3 :=
  if s.committed then s.items.g3.getD { cushion := 0, park := 0 } else { cushion := 0, park := 0 }

/-- Item G4 in use. -/
def geoG4 (s : Setup) : ItemG4 :=
  if s.committed then
    s.items.g4.getD { homeAngle := 0, decreasing := false, homeRate := 0, parkRate := 0 }
  else { homeAngle := 0, decreasing := false, homeRate := 0, parkRate := 0 }

/-- The still band in use, 0 before commit (R186). -/
def stillBand (s : Setup) : Nat := if s.committed then s.items.g5.getD 0 else 0

/-- Item C1 in use. -/
def consoleScales (s : Setup) : Axes := if s.committed then s.items.c1.getD Axes.zero else Axes.zero

/-- Item C2 in use. -/
def consoleLimits (s : Setup) : ItemC2 :=
  if s.committed then s.items.c2.getD { pitchLimit := 0, rollLimit := 0, beta := 0 }
  else { pitchLimit := 0, rollLimit := 0, beta := 0 }

/-- Item T1 in use. -/
def thresholdsT1 (s : Setup) : ItemT1 :=
  if s.committed then s.items.t1.getD { pulse := 0, s1 := 0, s2 := 0, s3 := 0 }
  else { pulse := 0, s1 := 0, s2 := 0, s3 := 0 }

/-- Item T2 in use. -/
def thresholdsT2 (s : Setup) : ItemT2 :=
  if s.committed then s.items.t2.getD { s4 := 0, s5 := 0, s6 := 0, s7 := 0 }
  else { s4 := 0, s5 := 0, s6 := 0, s7 := 0 }

/-- Item T3 in use. -/
def thresholdsT3 (s : Setup) : ItemT3 :=
  if s.committed then s.items.t3.getD { r1 := 0, r2 := 0, r3 := 0 } else { r1 := 0, r2 := 0, r3 := 0 }

/-- A limited joint has a travel window; a continuous one has none (item G2). -/
def isLimited (s : Setup) : Bool := !(geoG2 s).continuous

end Sys2Proof.Machine
end

