-- ==== Sys2Proof/Machine/Gains.lean ====
section
/-! DEFINITION. The gain directory (chapter 8): resolution, effective gains, page changes and blends,
the regime at a joint that is not BASE, the oscillation monitor's flag, and the marks. -/

namespace Sys2Proof.Machine

/-- The page of a number. -/
def pageAt (g : GainDir) (p : PageNo) : Page := g.pages[p]

/-- The directory with one page replaced. -/
def putPage (g : GainDir) (p : PageNo) (x : Page) : GainDir := { g with pages := g.pages.set p x }

/-- A page is usable when it is present and not WITHDRAWN (R137). -/
def usable (p : Page) : Bool := p.present && !p.withdrawn

/-- The page chosen for a regime (R138). -/
def chosenPage (g : GainDir) (r : Regime) : PageNo :=
  let e := g.entries[r]
  if e.present && usable (pageAt g e.page) then e.page else 0

/-- The marks a resolution sets: VISITED on the entry, USED on the page chosen (R138). -/
def resolveMarks (g : GainDir) (r : Regime) : GainDir :=
  let p := chosenPage g r
  putPage { g with entries := g.entries.set r { g.entries[r] with visited := true } } p
    { pageAt g p with used := true }

/-- The effective value of one gain at blend count k (R141). -/
def effective (x y : Int) (k : Nat) : Int := x + truncDiv ((y - x) * (k : Int)) 64

/-- The effective gains of the working context (R141). -/
def effectiveGains (g : GainDir) : GainSet :=
  { kp := effective g.fromGains.kp g.toGains.kp g.blend
    kd := effective g.fromGains.kd g.toGains.kd g.blend
    lr := effective g.fromGains.lr g.toGains.lr g.blend
    la := effective g.fromGains.la g.toGains.la g.blend
    alpha := effective g.fromGains.alpha g.toGains.alpha g.blend
    rho := effective g.fromGains.rho g.toGains.rho g.blend }

/-- The ramping bit: set while the blend count is below 64 (R142). -/
def ramping (g : GainDir) : Bool := g.blend < 64

/-- The gains' movement at a page change to page p: a blend from the effective gains in ENGAGED
(R143), at once in any other state (R144). -/
def movePage (inEngaged : Bool) (p : PageNo) (g : GainDir) : GainDir :=
  { g with page := some p
           fromGains := effectiveGains g
           toGains := (pageAt g p).gains
           blend := if inEngaged then 0 else 64 }

/-- The ring with every reversal flag cleared, its entries and terms kept (R74). -/
def clearReversals (ring : List RingEntry) : List RingEntry :=
  ring.map (fun e => { e with reversal := false })

/-- The number of ring entries that hold reversal flag 1 (R73). -/
def reversalCount (ring : List RingEntry) : Nat := (ring.filter (·.reversal)).length

/-- A page change to page p (R146): the gains move, the reversal flags are cleared, s becomes 0. -/
def pageChange (p : PageNo) (s : State) : State :=
  { s with gains := movePage (s.node.state == .engaged) p s.gains
           sensor := { s.sensor with ring := clearReversals s.sensor.ring }
           corr := { s.corr with sign := 0 } }

/-- A resolution of regime r with what follows when it chooses another page than the one in use. -/
def resolveInUse (r : Regime) (s : State) : State :=
  let p := chosenPage s.gains r
  let s1 := s.setGains (resolveMarks s.gains r)
  if s.gains.page = some p then s1 else pageChange p s1

/-- A regime switch to regime r (R139). -/
def switchRegime (r : Regime) (s : State) : State :=
  resolveInUse r (s.setGains { s.gains with regime := some r })

/-- The working context established on page 0 (R140, R156): no mark is set. -/
def establish (g : GainDir) : GainDir :=
  { g with page := some 0, regime := none, fromGains := (pageAt g 0).gains,
           toGains := (pageAt g 0).gains, blend := 64, pending := none }

/-- An engage blend (R145): from all zeros to the gains of the page in use, k at 0. -/
def engageBlend (g : GainDir) : GainDir :=
  { g with fromGains := GainSet.zero
           toGains := match g.page with
                      | some p => (pageAt g p).gains
                      | none => g.toGains
           blend := 0 }

/-- CLEAR_MARKS (R155): VISITED, USED and STRAINED cleared on every entry and page. -/
def clearMarks (g : GainDir) : GainDir :=
  { g with entries := g.entries.map (fun e => { e with visited := false })
           pages := g.pages.map (fun p => { p with used := false, strained := false }) }

/-- The states in which a joint's directory takes regime data and tests its local pending (R148). -/
def directoryRuns : NodeState → Bool
  | .settling | .idle | .homing | .parked | .engaged | .hold | .parking | .fault => true
  | _ => false

/-- The local pending after an acted-on VEHICLE (R149). -/
def filePending (v : VehiclePayload) (capture : Time) (pending : Option (Regime × Time)) :
    Option (Regime × Time) :=
  if v.pendingPresent then
    let r := pendingOfByte v.pendingRegime
    let due := capture + v.lead.setWidth 32
    match pending with
    | none => some (r, due)
    | some (r', due') => if r' = r then some (r', due') else some (r, due)
  else pending

/-- Whether the local pending names a regime (R151). -/
def pendingNames (pending : Option (Regime × Time)) (r : Regime) : Bool :=
  match pending with
  | some (r', _) => r' == r
  | none => false

/-- Late adoption of a frame's published regime (R151). -/
def lateAdoption (v : VehiclePayload) (s : State) : State :=
  match regimeOfByte v.regime with
  | none => s
  | some r =>
    if s.gains.regime ≠ some r ∧ pendingNames s.gains.pending r = false then switchRegime r s else s

/-- A VEHICLE handed on to the directory at its arrival (R148, R149, R151), with the freshness its
part was just given. -/
def directoryTakes (v : VehiclePayload) (capture : Time) (freshness : Fresh) (s : State) : State :=
  if s.gains.page.isSome && directoryRuns s.node.state && freshness != .lost then
    lateAdoption v (s.setGains { s.gains with pending := filePending v capture s.gains.pending })
  else s

/-- The local pending tested at a delivered sample (R150). -/
def testLocalPending (t : Time) (s : State) : State :=
  if directoryRuns s.node.state then
    match s.gains.pending with
    | some (r, due) =>
      if atOrAfter t due then switchRegime r (s.setGains { s.gains with pending := none }) else s
    | none => s
  else s

/-- A command is significant when it is not 0 and at least trunc(Lr / 8) in magnitude (R153). -/
def significant (lr u : Int) : Bool := u ≠ 0 ∧ truncDiv lr 8 ≤ (u.natAbs : Int)

/-- The reversal flag of a sent command (R153): significant, and of the sign opposite to s. -/
def reversalFlag (lr u sign : Int) : Bool := significant lr u ∧ sign ≠ 0 ∧ u.sign ≠ sign

/-- s after a sent command (R153). -/
def signAfter (lr u sign : Int) : Int := if significant lr u then u.sign else sign

end Sys2Proof.Machine
end

