-- ==== Sys2Proof/Machine/Peers.lean ====
section
/-! DEFINITION. The peer table (chapter 3): sample ages and freshness, filing, the views that follow
from the entries (hears set, role map, partner case), selection and extrapolation. -/

namespace Sys2Proof.Machine

/-! ### Sample age and freshness -/

/-- The sample age of a part at the uptime t, in µs (R46): the signed difference of uptimes plus the
age field, a sum below 0 taken as 0. -/
def sampleAge {α : Type} (t : Time) (p : PeerPart α) : Nat :=
  ((t - p.capture).toInt + (p.age.toNat : Int)).toNat

/-- The freshness an arriving frame gives its part (R47). -/
def freshOfAge (age : Nat) : Fresh :=
  if age < 5000 then .fresh else if age < 20000 then .stale else .lost

/-- The freshness of a part after an own sample (R48): it moves toward LOST and not back. -/
def agedFresh (f : Fresh) (age : Nat) : Fresh :=
  match f with
  | .fresh => freshOfAge age
  | .stale => if age < 20000 then .stale else .lost
  | .lost => .lost

/-- A part after the evaluation at the sample time t (R48, R50). -/
def agePart {α : Type} (t : Time) (p : PeerPart α) : PeerPart α :=
  { p with fresh := agedFresh p.fresh (sampleAge t p) }

/-- An entry after the evaluation at the sample time t (R48). -/
def ageEntry (t : Time) (e : PeerEntry) : PeerEntry :=
  { e with report := e.report.map (agePart t)
           vehicle := e.vehicle.map (agePart t)
           aim := e.aim.map (agePart t) }

/-- Whether a part is FRESH or STALE. -/
def isCurrent {α : Type} : Option (PeerPart α) → Bool
  | some p => p.fresh != .lost
  | none => false

/-- The freshness of a part, ABSENT where it holds nothing (R43). -/
def partCase {α : Type} : Option (PeerPart α) → Case
  | some p => caseOfFresh p.fresh
  | none => .absent

/-! ### Entries and views -/

/-- The addresses with a place in the table, in rising order (R43). -/
def addresses : List (Fin 7) := [0, 1, 2, 3, 4, 5, 6]

/-- The entry of an address. -/
def entryAt (p : Peers) (a : Fin 7) : PeerEntry := p.entries[a]

/-- The table with the entry of an address replaced. -/
def putEntry (p : Peers) (a : Fin 7) (e : PeerEntry) : Peers :=
  { p with entries := p.entries.set a e }

/-- Whether an address is in the hears set: one of its parts is FRESH or STALE (R55). -/
def hears (p : Peers) (a : Fin 7) : Bool :=
  isCurrent (entryAt p a).report || isCurrent (entryAt p a).vehicle || isCurrent (entryAt p a).aim

/-- The hears set as carried on the link, bit n for address n (R55, R191). -/
def hearsWord (p : Peers) : BitVec 7 :=
  BitVec.ofBool (hears p 6) ++ BitVec.ofBool (hears p 5) ++ BitVec.ofBool (hears p 4)
    ++ BitVec.ofBool (hears p 3) ++ BitVec.ofBool (hears p 2) ++ BitVec.ofBool (hears p 1)
    ++ BitVec.ofBool (hears p 0)

/-- Whether the report part of an address is FRESH or STALE and claims a role (R56). -/
def claimsRole (p : Peers) (r : Role) (a : Fin 7) : Bool :=
  match (entryAt p a).report with
  | some q => q.fresh != .lost && q.content.role.toNat == roleCode r
  | none => false

/-- The role map at a node of role `own` (R56): for each role 1..5 other than its own, the lowest
claiming address; a report that claims role 0, 6 or 7 is filed and not mapped. -/
def roleMap (p : Peers) (own r : Role) : Option (Fin 7) :=
  if isJoint r && r != own then addresses.find? (claimsRole p r) else none

/-- The report part at the partner address. -/
def partnerPart (p : Peers) : Option (PeerPart ReportPayload) :=
  match p.partner with
  | some a => (entryAt p a).report
  | none => none

/-- The partner case (R57). -/
def partnerCase (p : Peers) : Case := partCase (partnerPart p)

/-- The partner address follows the role map each time it is recomputed (R57). -/
def updatePartner (own : Role) (p : Peers) : Peers :=
  match partnerRole own with
  | none => p
  | some r =>
    match roleMap p own r with
    | some a => { p with partner := some a }
    | none => p

/-! ### Filing an arrival -/

/-- The gap between a sequence number and the last one, 0..255 (R45). -/
def seqGap (seq last : Byte) : Nat := (seq - last - 1).toNat

/-- The missed count after a frame is filed into a part (R45). -/
def missedAfter {α : Type} (part : Option (PeerPart α)) (seq : Byte) (missed : Nat) : Nat :=
  match part with
  | none => missed
  | some p => satAdd 65535 missed (seqGap seq p.lastSeq)

/-- A part as a frame fills it at its arrival (R44, R47): `now` is the end condition's uptime. -/
def filedPart {α : Type} (content : α) (seq : Byte) (age : Half) (capture now : Time) : PeerPart α :=
  { content := content, capture := capture, age := age, lastSeq := seq
    fresh := freshOfAge (((now - capture).toInt + (age.toNat : Int)).toNat) }

/-- A REPORT filed in the entry of its source (R44, R45), with the partner address after it (R57). -/
def fileReport (own : Role) (p : Peers) (a : Fin 7) (c : ReportPayload) (capture now : Time) : Peers :=
  let e := entryAt p a
  let filed := putEntry p a
    { e with report := some (filedPart c c.seq c.age capture now)
             missed := missedAfter e.report c.seq e.missed
             role := some c.role }
  let dropped :=
    match partnerRole own with
    | some r => if filed.partner = some a ∧ c.role.toNat ≠ roleCode r then { filed with partner := none }
                else filed
    | none => filed
  updatePartner own dropped

/-- A VEHICLE filed in the entry of its source (R44, R45). -/
def fileVehicle (p : Peers) (a : Fin 7) (c : VehiclePayload) (capture now : Time) : Peers :=
  let e := entryAt p a
  putEntry p a
    { e with vehicle := some (filedPart c c.seq c.age capture now)
             missed := missedAfter e.vehicle c.seq e.missed }

/-- An AIM filed in the entry of its source; it carries no age (R43, R44, R45). -/
def fileAim (p : Peers) (a : Fin 7) (c : AimPayload) (capture now : Time) : Peers :=
  let e := entryAt p a
  putEntry p a
    { e with aim := some (filedPart c c.seq 0 capture now)
             missed := missedAfter e.aim c.seq e.missed }

/-! ### The own sample -/

/-- The younger of the best so far and an address's part; a tie keeps the lower address (R52). -/
def younger (age : Fin 7 → Option Nat) (best : Option (Fin 7 × Nat)) (a : Fin 7) :
    Option (Fin 7 × Nat) :=
  match age a, best with
  | none, b => b
  | some n, none => some (a, n)
  | some n, some (b, m) => if n < m then some (a, n) else some (b, m)

/-- The address of the part with the smallest sample age, none where every part is ABSENT (R52). -/
def youngest (age : Fin 7 → Option Nat) : Option (Fin 7) :=
  (addresses.foldl (younger age) none).map (·.1)

/-- The peer table at an own sample with sample time t (R48, R52, R56, R57): every part evaluated,
the partner address updated, the vehicle and aim parts selected. -/
def evaluatePeers (own : Role) (t : Time) (p : Peers) : Peers :=
  let aged := updatePartner own { p with entries := p.entries.map (ageEntry t) }
  { aged with
    selVehicle := youngest (fun a => (entryAt aged a).vehicle.map (sampleAge t))
    selAim := youngest (fun a => (entryAt aged a).aim.map (sampleAge t)) }

/-- The selected vehicle part. -/
def selectedVehicle (p : Peers) : Option (PeerPart VehiclePayload) :=
  match p.selVehicle with
  | some a => (entryAt p a).vehicle
  | none => none

/-- The selected aim part. -/
def selectedAim (p : Peers) : Option (PeerPart AimPayload) :=
  match p.selAim with
  | some a => (entryAt p a).aim
  | none => none

/-! ### Extrapolation -/

/-- An angle projected by a rate in ru over an age in µs: the step is trunc(rate × age / 64000)
(R51, R54). -/
def projected (angle rate : Int) (age : Nat) : Int := angle + truncDiv (rate * (age : Int)) 64000

/-- The extrapolated vehicle attitude ψnow of a part at the sample time t (R51): projected while the
part is FRESH or STALE, as held while it is LOST. -/
def attitudeNow (t : Time) (p : PeerPart VehiclePayload) : Axes :=
  let att := payloadAttitude p.content
  let rate := payloadRates p.content
  let age := sampleAge t p
  if p.fresh = .lost then att
  else
    { yaw := wrapAngle (projected att.yaw rate.yaw age)
      pitch := clampSight (projected att.pitch rate.pitch age)
      roll := clampSight (projected att.roll rate.roll age) }

/-- The coarse partner's angle that a fine joint subtracts (R54, R122): projected while FRESH or
STALE, wrapped at PAN and saturated at TILT; as held while LOST. -/
def partnerAngle (own : Role) (t : Time) (p : PeerPart ReportPayload) : Int :=
  let angle := p.content.angle.toInt
  let moved := projected angle p.content.rate.toInt (sampleAge t p)
  if p.fresh = .lost then angle
  else if isYaw own then wrapAngle moved else satAngle moved

end Sys2Proof.Machine
end

