-- ==== Sys2Proof/Machine/Ops.lean ====
section
/-! DEFINITION. The operations the commands share: changing the node state with the outputs that
follow it (R76, R10, R145), raising a fault cause (R14, R15), hold causes (R159, R160), the entries
to SETTLING, HOMING, PARKING, ENGAGED and LIVE, arming a transmit slot (R24 to R26), acting on a
STOP (R93), entering STANDBY (R187) and waking (R188). -/

namespace Sys2Proof.Machine

/-! ### Node state -/

/-- The motion states, in which ENABLE is on and the brake released (R76). -/
def isMotion : NodeState → Bool
  | .homing | .parking | .engaged => true
  | _ => false

/-- The drive outputs at a change of node state (R76). A move between two motion states keeps them;
any other entry sets the last command sent to 0. The moves end with the state they belong to. -/
def driveFor (old new : NodeState) (d : Drive) : Drive :=
  { d with
    enable := isMotion new
    brake := !isMotion new
    lastCommand := if isMotion old && isMotion new then d.lastCommand else 0
    home := none
    park := none }

/-- A change of node state: the LEDs restart (R10), the drive outputs follow (R76), the hold exit
count is 0 (R160, R162), leaving HOMING disarms the index capture (R70), and leaving ENGAGED ends a
blend (R145) and sets the previous command to 0 (R130). -/
def moveTo (new : NodeState) (s : State) : State :=
  let old := s.node.state
  { s with
    node := { s.node with state := new, holdExit := 0 }
    ledPhase := 0
    drive := driveFor old new s.drive
    sensor := if old = .homing then { s.sensor with indexArmed := false } else s.sensor
    corr := if old = .engaged then { s.corr with commandPrev := 0 } else s.corr
    gains := if old = .engaged then { s.gains with blend := 64 } else s.gains }

/-! ### Fault causes -/

/-- The states in which a raised cause enters FAULT (R14). -/
def takesFault : NodeState → Bool
  | .setup | .settling | .idle | .homing | .parked | .engaged | .hold | .parking | .live => true
  | _ => false

/-- The link controller at an entry to FAULT: a CONSOLE sends no AIM there, and of its other slots STOP and
REPLY alone (R16, R20, R170), so its AIM and COMMAND slots are emptied, which counts as neither superseded
nor dropped. DEDUCED, unsafe: log entry 31. -/
def silenced (r : Role) (l : Link) : Link :=
  if r = .console then { l with slots := { l.slots with aim := .empty, command := .empty } } else l

/-- Entry to FAULT on a first cause (R14, R68): the record is filled, the latch cleared, the homed
flag kept, the open bias-capture run closed, and a reacquire ramp under way in ENGAGED halted
(DEDUCED, unsafe: log entry 15). A CONSOLE falls silent on AIM and COMMAND (R16, R20, R170). -/
def enterFault (c : Cause) (s : State) : State :=
  let t := moveTo .fault s
  { t with
    link := silenced s.ident.role t.link
    node := { t.node with
      latch := false
      record := { first := some c, causes := causeBit c, later := 0, firstUptime := s.uptime
                  enteredFrom := some s.node.state } }
    sensor := if s.node.state = .settling then { t.sensor with run := none } else t.sensor
    corr := { t.corr with rampHalted := s.node.state == .engaged && s.corr.loss == .reacquiring } }

/-- A cause raised in FAULT (R15). -/
def laterCause (c : Cause) (r : FaultRecord) : FaultRecord :=
  { r with causes := r.causes ||| causeBit c, later := satAdd 255 r.later 1 }

/-- A fault cause raised to the node controller (R14, R15). -/
def raise (c : Cause) (s : State) : State :=
  if s.node.state = .fault then s.setNode { s.node with record := laterCause c s.node.record }
  else if takesFault s.node.state then enterFault c s
  else s

/-- Two causes raised together, taken one after the other in either order (R15); the order is a free
choice. DESIGN CHOICE, safe: log entry 6. -/
def raiseTwo (c1 c2 : Cause) (s : State) : State :=
  let t := s.setChoices (s.choices + 1)
  if Config.secondCauseFirst s.choices then raise c1 (raise c2 t) else raise c2 (raise c1 t)

/-- The causes found together at one sample, DRIVE and at most one other. -/
def raiseFound (driveFound : Bool) (other : Option Cause) (s : State) : State :=
  match driveFound, other with
  | true, some c => raiseTwo .drive c s
  | true, none => raise .drive s
  | false, some c => raise c s
  | false, none => s

/-! ### Hold causes -/

/-- UNHEARD (R159): the fine partner case is FRESH, its report carries state code 5, ENGAGED, and the
hears set it carries does not hold the node's own address. -/
def isUnheard (s : State) : Bool :=
  match partnerPart s.peers with
  | some q => q.fresh == .fresh && q.content.state == 5 && !q.content.hears.getLsbD s.ident.address.toNat
  | none => false

/-- Whether a hold cause is present at a coarse node (R159); the other roles judge none. -/
def holdCause (s : State) : Bool :=
  isCoarse s.ident.role && (s.link.health == .mute || isUnheard s)

/-- The judgement of the hold causes (R159): a cause present moves ENGAGED to HOLD (R160) and sets
the hold exit count to 0 in HOLD (R162). -/
def judgeHold (s : State) : State :=
  if holdCause s then
    if s.node.state = .engaged then moveTo .hold s
    else if s.node.state = .hold then s.setNode { s.node with holdExit := 0 }
    else s
  else s

/-! ### Entries -/

/-- The joint angle of the last delivered sample (R158). -/
def lastAngle (s : State) : Int :=
  match s.sensor.prev with
  | some p => p.angle
  | none => 0

/-- Entry to SETTLING: a new bias capture from zero bias (R64); at BASE attitude running is set to
no (R99). -/
def enterSettling (s : State) : State :=
  let t := moveTo .settling s
  { t with
    sensor := { t.sensor with bias := Axes.zero, run := none, settling := 0, biasRough := false
                              biasNone := false }
    vref := { t.vref with running := false } }

/-- Entry to HOMING (R82): the homed flag cleared, the index capture armed, a home move started in
the home direction of G4. -/
def enterHoming (s : State) : State :=
  let t := moveTo .homing s
  { t with
    node := { t.node with homed := false }
    sensor := { t.sensor with indexArmed := true }
    drive := { t.drive with
      home := some { up := !(geoG4 s.setup).decreasing, reversals := 0, count := 0 } } }

/-- Entry to PARKING: a new park move with its counts at 0 (R87). -/
def enterParking (s : State) : State :=
  let t := moveTo .parking s
  t.setDrive { t.drive with park := some { count := 0, arrival := 0 } }

/-- Entry to ENGAGED with its entry work (R158). -/
def enterEngaged (s : State) : State :=
  let t := moveTo .engaged s
  { t with
    corr := { t.corr with
      split := if isCoarse s.ident.role then lastAngle s else t.corr.split
      targetPrev := lastAngle s
      commandPrev := 0
      sign := 0
      strain := 0 }
    sensor := { t.sensor with ring := clearReversals t.sensor.ring }
    gains := engageBlend t.gains }

/-- ENGAGED, or HOLD at a coarse node with a hold cause present (R157, R161). -/
def engageOrHold (s : State) : State :=
  if holdCause s then moveTo .hold s else enterEngaged s

/-- The handwheel counters become the last values (R171). -/
def resample (c : Console) : Console := { c with last := c.counters }

/-- The aim zeroed, with a resample (R176). -/
def zeroAim (c : Console) : Console := resample { c with aim := Axes.zero }

/-- Entry to LIVE (R177): a zero aim, a resample, the button levels taken from the inputs. -/
def enterLive (s : State) : State :=
  let t := moveTo .live s
  t.setConsole { zeroAim t.console with engageLevel := t.pins.engagePressed
                                        parkLevel := t.pins.parkPressed }

/-- The node leaves SETTLING at the end of a bias capture (R66, R67, R9); at BASE the attitude starts
from zero (R99). -/
def leaveSettling (s : State) : State :=
  let t := moveTo (if s.node.homed then .parked else .idle) s
  if s.ident.role = .base then
    t.setVref { t.vref with phi := Axes.zero, heading := 0, running := true }
  else t

/-! ### Transmit slots -/

/-- The slot of a kind. -/
def slotAt (s : Slots) : SlotKind → Slot
  | .stop => s.stop
  | .vehicle => s.vehicle
  | .aim => s.aim
  | .report => s.report
  | .command => s.command
  | .reply => s.reply

/-- The slots with one replaced. -/
def putSlot (s : Slots) (k : SlotKind) (x : Slot) : Slots :=
  match k with
  | .stop => { s with stop := x }
  | .vehicle => { s with vehicle := x }
  | .aim => { s with aim := x }
  | .report => { s with report := x }
  | .command => { s with command := x }
  | .reply => { s with reply := x }

/-- The next sequence number of a kind (R26). -/
def seqAt (q : Seqs) : SlotKind → Byte
  | .stop => q.stop
  | .vehicle => q.vehicle
  | .aim => q.aim
  | .report => q.report
  | .command => q.command
  | .reply => q.reply

/-- The sequences with one kind's increased by 1, modulo 256 (R26). -/
def bumpSeq (q : Seqs) (k : SlotKind) : Seqs :=
  match k with
  | .stop => { q with stop := q.stop + 1 }
  | .vehicle => { q with vehicle := q.vehicle + 1 }
  | .aim => { q with aim := q.aim + 1 }
  | .report => { q with report := q.report + 1 }
  | .command => { q with command := q.command + 1 }
  | .reply => { q with reply := q.reply + 1 }

/-- Arming a slot other than STOP (R24): the slot after it, and whether a frame was superseded. -/
def armedSlot (f : TxFrame) : Slot → Slot × Bool
  | .empty => (.armed f 0, false)
  | .armed _ _ => (.armed f 0, true)
  | .inFlight g n succ => (.inFlight g n (some f), succ.isSome)

/-- A counter of the link increased by 1, modulo 65536, where a condition holds (R41). -/
def countIf (b : Bool) (c : Half) : Half := if b then c + 1 else c

/-- A frame armed into a slot other than STOP with the next sequence number of its kind (R24, R26). -/
def armSlot (k : SlotKind) (f : Byte → TxFrame) (l : Link) : Link :=
  let r := armedSlot (f (seqAt l.seqs k)) (slotAt l.slots k)
  { l with
    slots := putSlot l.slots k r.1
    seqs := bumpSeq l.seqs k
    superseded := countIf r.2 l.superseded }

/-- A STOP frame with cause 1, STOP input (R92), armed where the STOP slot is EMPTY; otherwise
nothing changes and no sequence number is used (R25). -/
def armStop (l : Link) : Link :=
  match l.slots.stop with
  | .empty =>
    { l with
      slots := { l.slots with
        stop := .armed { body := .stop { cause := 1, seq := l.seqs.stop }, sampleTime := 0
                         effectTime := none } 0 }
      seqs := bumpSeq l.seqs .stop }
  | _ => l

/-! ### STOP, STANDBY and wake -/

/-- The states in which the node controller acts on a STOP (R92, R93), by role. -/
def actsOnStop : NodeState → Bool
  | .setup | .settling | .idle | .homing | .parked | .engaged | .hold | .parking | .fault | .live =>
    true
  | _ => false

/-- A STOP, received or raised (R93). -/
def actOnStop (s : State) : State :=
  let t := s.setNode { s.node with latch := false }
  match s.node.state with
  | .engaged | .hold => enterParking t
  | .homing => (moveTo .idle t).setNode { (moveTo .idle t).node with homed := false }
  | .live => t.setConsole (zeroAim t.console)
  | _ => t

/-- Entry to STANDBY (R187): the slots emptied, the timer stopped, a request in flight given up
(R62), the latch cleared. What a block does not keep there, as a CONSOLE its aim (R170), stands as it was
until the wake gives its wake values (R188). DESIGN CHOICE, unsafe: log entry 37. -/
def enterStandby (s : State) : State :=
  let t := moveTo .standby s
  { t with
    node := { t.node with latch := false }
    link := { t.link with slots := Slots.empty, activity := .idle }
    sensor := { t.sensor with timer := none, inFlight := none } }

/-- A handwheel counter's value as the decoders start, after a wake (R178). DESIGN CHOICE, safe: log entry 7. -/
def startedWheels (n : Nat) : Wheels :=
  { yaw := Config.decoderStart n, pitch := Config.decoderStart (n + 1),
    roll := Config.decoderStart (n + 2) }

/-- The sensor front end after a wake (R75): the encoder state is kept, the rest is as after a full
reset, the timer started at the wake. -/
def wokenSensor (now : Time) (x : Sensor) : Sensor :=
  { Sensor.reset now with count := x.count, illegal := x.illegal, homeRef := x.homeRef }

/-- The console unit after a wake (R178), before its entry to LIVE. -/
def wokenConsole (n : Nat) (c : Console) : Console :=
  { c with counters := startedWheels n, aim := Axes.zero, mode := .stab }

/-- A wake from STANDBY (R188): every block takes its wake values in the one event, and the node
enters SETTLING at a joint role, LIVE at a CONSOLE. -/
def wake (now : Time) (s : State) : State :=
  let joint := s.ident.role != .console
  let t : State :=
    { s with
      link := Link.reset
      peers := Peers.reset
      sensor := wokenSensor now s.sensor
      vref := VehicleRef.reset
      corr := Correction.reset
      gains := if joint then establish s.gains else s.gains
      console := wokenConsole s.choices s.console
      choices := s.choices + 3
      node := { s.node with latch := false, record := FaultRecord.empty } }
  if joint then enterSettling t else enterLive t

end Sys2Proof.Machine
end

