-- ==== Sys2Proof/Machine/Drive.lean ====
section
/-! DEFINITION. The drive interface (chapter 5): the end switches and the drive-fault input, the home
move, the park move, and the drive interface's part of a delivered sample. -/

namespace Sys2Proof.Machine

/-- The level of an end switch. -/
def switchLevel (d : Drive) : EndSwitch → Bool
  | .min => d.minTripped
  | .max => d.maxTripped

/-- The drive interface with the level of an end switch replaced. -/
def putSwitch (d : Drive) (e : EndSwitch) (x : Bool) : Drive :=
  match e with
  | .min => { d with minTripped := x }
  | .max => { d with maxTripped := x }

/-- Whether a command points toward an end switch (R79). -/
def pointsToward (u : Int) : EndSwitch → Bool
  | .max => decide (0 < u)
  | .min => decide (u < 0)

/-- Whether a command points toward a switch that is tripped (R81). -/
def towardTripped (d : Drive) (u : Int) : Bool :=
  (pointsToward u .max && d.maxTripped) || (pointsToward u .min && d.minTripped)

/-- The leading switch of a search direction (R84). -/
def leadingSwitch (up : Bool) : EndSwitch := if up then .max else .min

/-- A command put on the drive line (R77). -/
def sendCommand (u : Int) (s : State) : State := s.setDrive { s.drive with lastCommand := u }

/-- Page 0's acceleration limit as it was set up (R83, R88). -/
def pageZeroLa (s : State) : Int := (pageAt s.gains 0).gains.la

/-- The home-move command (R83): the last command moved toward the home rate, signed by the search
direction, by at most La of page 0. -/
def homeCommand (rate : Nat) (up : Bool) (last la : Int) : Int :=
  let wanted : Int := if up then (rate : Int) else -(rate : Int)
  clamp (last - la) (last + la) wanted

/-- The search after its leading switch is met with the reversal count at 0 (R84). -/
def reverseSearch (m : HomeMove) : HomeMove := { m with up := !m.up, reversals := 1 }

/-- The drive interface's part of a sample delivered in HOMING (R78, R83, R84, R86). HOME_FAIL is raised
once where R84 and R86 both ask for it. DESIGN CHOICE, unsafe: log entry 25. -/
def homeSample (s : State) : State :=
  match s.drive.home with
  | none => s
  | some m =>
    let m1 := { m with count := satAdd 60000 m.count 1 }
    let u := homeCommand (geoG4 s.setup).homeRate m.up s.drive.lastCommand (pageZeroLa s)
    let met := isLimited s.setup && switchLevel s.drive (leadingSwitch m.up)
    let failed := (met && m.reversals != 0) || m1.count == 60000
    let m2 := if met && m.reversals == 0 then reverseSearch m1 else m1
    let t := s.setDrive { s.drive with home := some m2 }
    if s.drive.driveFault || failed then
      raiseFound s.drive.driveFault (if failed then some .homeFail else none) t
    else sendCommand u t

/-- The error of the park move (R88): wrapped at a continuous joint, otherwise the plain difference
saturated to −32767..32767. -/
def parkError (setup : Setup) (angle : Int) : Int :=
  if isLimited setup then satRate ((geoG3 setup).park - angle)
  else wrapDiff (geoG3 setup).park angle

/-- The park-move command (R88). -/
def parkCommand (setup : Setup) (la last angle : Int) : Int :=
  let rate : Int := ((geoG4 setup).parkRate : Int)
  let raw := clamp (-rate) rate (parkError setup angle * 8)
  clamp (-rate) rate (clamp (last - la) (last + la) raw)

/-- Whether a sample holds still (R89). -/
def holdsStill (setup : Setup) (angle rate : Int) : Bool :=
  decide ((parkError setup angle).natAbs ≤ 2 ∧ rate.natAbs ≤ 64)

/-- The arrival of a park move (R89): PARKED, or with the latch set ENGAGED or HOLD. -/
def arrive (s : State) : State :=
  if s.node.latch then engageOrHold (s.setNode { s.node with latch := false })
  else moveTo .parked s

/-- The drive interface's part of a sample delivered in PARKING (R78, R81, R88, R89, R90). -/
def parkSample (angle rate : Int) (s : State) : State :=
  match s.drive.park with
  | none => s
  | some m =>
    let u := parkCommand s.setup (pageZeroLa s) s.drive.lastCommand angle
    let endStop := isLimited s.setup && towardTripped s.drive u
    let count := satAdd 60000 m.count 1
    let arrival := if holdsStill s.setup angle rate then satAdd 20 m.arrival 1 else 0
    if s.drive.driveFault || endStop then
      raiseFound s.drive.driveFault (if endStop then some .endStop else none)
        (s.setDrive { s.drive with park := some { m with count := count } })
    else
      let sent := sendCommand u
        (s.setDrive { s.drive with park := some { count := count, arrival := arrival } })
      if arrival = 20 then arrive sent
      else if count = 60000 then raise .moveTimeout sent
      else sent

/-- Whether an end switch is tripped at a limited joint (R79, R80). -/
def anyTripped (s : State) : Bool := isLimited s.setup && (s.drive.minTripped || s.drive.maxTripped)

/-- The drive interface's part of a sample delivered in HOLD (R77, R80). -/
def holdSample (s : State) : State :=
  let t := sendCommand 0 s
  if anyTripped s then raise .endStop t else t

/-- An end switch becomes tripped (R79, R80, R81, R84). A CONSOLE has no end switches; a level that
is already tripped has no edge. -/
def tripSwitch (e : EndSwitch) (s : State) : State :=
  if s.ident.role = .console || switchLevel s.drive e then s
  else
    let t := s.setDrive (putSwitch s.drive e true)
    if !isLimited s.setup then t
    else
      match s.node.state with
      | .engaged | .hold => raise .endStop t
      | .parking => if pointsToward s.drive.lastCommand e then raise .endStop t else t
      | .homing =>
        match s.drive.home with
        | none => t
        | some m =>
          if leadingSwitch m.up = e then
            if m.reversals = 0 then t.setDrive { t.drive with home := some (reverseSearch m) }
            else raise .homeFail t
          else t
      | _ => t

/-- An end switch becomes clear: its level is recorded (R79). -/
def clearSwitch (e : EndSwitch) (s : State) : State :=
  if s.ident.role = .console then s else s.setDrive (putSwitch s.drive e false)

/-- DRIVE_FAULT becomes asserted (R78). -/
def assertDriveFault (s : State) : State :=
  if s.ident.role = .console || s.drive.driveFault then s
  else
    let t := s.setDrive { s.drive with driveFault := true }
    if isMotion s.node.state then raise .drive t else t

/-- DRIVE_FAULT is released: its level is recorded (R78). -/
def releaseDriveFault (s : State) : State :=
  if s.ident.role = .console then s else s.setDrive { s.drive with driveFault := false }

end Sys2Proof.Machine
end

