-- ==== Sys2Proof/Machine/Flags.lean ====
section
/-! DEFINITION. The flag and status words the node shows: the REPORT flags (R132, R194), the state
LEDs (R6, R7, R10) and the link-activity pins (R40). -/

namespace Sys2Proof.Machine

/-- The conditions behind the REPORT flags of a sample (R132). -/
structure ReportFlags where
  inCushion : Bool
  atMin : Bool
  atMax : Bool
  strain : Bool
  biasRough : Bool
  biasNone : Bool
  vehicleLost : Bool
  consoleLost : Bool
  ramping : Bool
  homed : Bool
  deriving DecidableEq, Repr

/-- The flags field of a REPORT, bit 0 IN_CUSHION to bit 9 HOMED (R194). -/
def flagsWord (f : ReportFlags) : BitVec 10 :=
  BitVec.ofBool f.homed ++ BitVec.ofBool f.ramping ++ BitVec.ofBool f.consoleLost
    ++ BitVec.ofBool f.vehicleLost ++ BitVec.ofBool f.biasNone ++ BitVec.ofBool f.biasRough
    ++ BitVec.ofBool f.strain ++ BitVec.ofBool f.atMax ++ BitVec.ofBool f.atMin
    ++ BitVec.ofBool f.inCushion

/-- The levels of the three state LEDs. -/
structure Leds where
  led1 : Bool
  led2 : Bool
  led3 : Bool
  deriving DecidableEq, Repr

/-- The LEDs lit for a number 0..7: LED 1 has weight 4, LED 2 weight 2, LED 3 weight 1 (R6, R10). -/
def ledsOf (n : Nat) : Leds := { led1 := n.testBit 2, led2 := n.testBit 1, led3 := n.testBit 0 }

/-- The number a code display lights: the state code, and for LIVE the code less 8 (R10). -/
def displayNumber : NodeState → Nat
  | .live => 1
  | st => stateCode st

/-- How many phases the display of a state has (R6, R7, R10). -/
def ledPhases (st : NodeState) (c : CheckStatus) : Nat :=
  match st with
  | .selfcheck => if c = .passed then 2 else 1
  | .unassigned => 3
  | .setup | .fault => 2
  | .engaged | .standby => 1
  | .settling | .idle | .homing | .parked | .hold | .parking | .live => 2

/-- How long a phase of the display lasts, in ms; 0 for a steady display (R6, R7, R10). -/
def ledPhaseMs (st : NodeState) (c : CheckStatus) (phase : Nat) : Nat :=
  match st with
  | .selfcheck => if c = .passed then 250 else 0
  | .unassigned => 250
  | .setup => 500
  | .fault => 100
  | .engaged | .standby => 0
  | .settling | .idle | .homing | .parked | .hold | .parking | .live =>
    if phase = 0 then 900 else 100

/-- The LED levels of the node's display (R6, R7, R10). -/
def stateLeds (s : State) : Leds :=
  let lit := s.ledPhase == 0
  match s.node.state with
  | .selfcheck =>
    if s.check.status = .passed then ledsOf (if lit then 7 else 0) else ledsOf s.check.test
  | .unassigned => { led1 := s.ledPhase == 0, led2 := s.ledPhase == 1, led3 := s.ledPhase == 2 }
  | .setup | .fault => ledsOf (if lit then 7 else 0)
  | .engaged => ledsOf 7
  | .standby => ledsOf 0
  | .settling | .idle | .homing | .parked | .hold | .parking | .live =>
    ledsOf (if lit then displayNumber s.node.state else 0)

/-- The next phase of the display (R10); a steady display has one phase. -/
def nextPhase (s : State) : Nat := (s.ledPhase + 1) % ledPhases s.node.state s.check.status

/-- The link-activity pins ACT1 ACT0 (R40). -/
def activityPins : Activity → BitVec 2
  | .idle => 0b00#2
  | .contending => 0b01#2
  | .sending => 0b10#2
  | .receiving => 0b11#2

end Sys2Proof.Machine
end

