-- ==== Sys2Proof/Machine/Sensor.lean ====
section
/-! DEFINITION. The sensor front end (chapter 4): the sample and its angle and rate, the miss count and
SENSOR, bias capture, the encoder and index, and the sample ring. -/

namespace Sys2Proof.Machine

/-- A delivered sample at a joint role (R60). -/
structure Sample where
  time : Time
  raw : Axes
  valid : Bool
  bias : Axes
  angle : Int
  rate : Int
  deriving DecidableEq, Repr

/-! ### Angle and rate -/

/-- The joint angle from an encoder count, with the homed flag true (R71). -/
def homedAngle (setup : Setup) (count homeRef : BitVec 32) : Int :=
  let g1 := geoG1 setup
  let turned := roundDiv ((count - homeRef).toInt * (g1.scale : Int)) 4096
  let x := (geoG4 setup).homeAngle + (if g1.negative then -turned else turned)
  if isLimited setup then satAngle x else wrapAngle x

/-- The joint angle of a sample from the count latched at its expiry (R71); 0 while not homed. -/
def jointAngle (s : State) (count : BitVec 32) : Int :=
  if s.node.homed then homedAngle s.setup count s.sensor.homeRef else 0

/-- The previous sample once an index is captured: formed before the new home reference, whatever its
value, it gives the next sample no rate (R72, R85). -/
def beforeCapture (p : PrevAngle) : PrevAngle := { p with homed := false }

/-- The joint rate of a sample (R72). -/
def jointRate (s : State) (angle : Int) : Int :=
  match s.sensor.prev with
  | none => 0
  | some p =>
    if s.node.homed && p.homed && p.homeRef == s.sensor.homeRef then
      satRate ((if isLimited s.setup then angle - p.angle else wrapDiff angle p.angle) * 64)
    else 0

/-- The sample of an expiry's request, as delivered (R60, R62): its rates are the last valid
reading's. -/
def formSample (q : Request) (valid : Bool) (s : State) : Sample :=
  let angle := jointAngle s q.count
  { time := q.sampleTime, raw := s.sensor.lastValid, valid := valid, bias := s.sensor.bias
    angle := angle, rate := jointRate s angle }

/-- How this sample was formed becomes what the next sample's rate is judged by (R72). -/
def rememberAngle (angle : Int) (s : State) : State :=
  s.setSensor { s.sensor with
    prev := some { angle := angle, homed := s.node.homed, homeRef := s.sensor.homeRef } }

/-! ### Readings -/

/-- The states in which SENSOR is raised (R63). -/
def raisesSensor : NodeState → Bool
  | .idle | .homing | .parked | .engaged | .hold | .parking | .fault => true
  | _ => false

/-- A valid reading taken: it becomes the last valid reading and the miss count is 0 (R62). -/
def takeReading (r : SensorReply) (x : Sensor) : Sensor :=
  { x with lastValid := replyRates r, misses := 0, inFlight := none }

/-- An invalid or abandoned reading: the miss count rises, and SENSOR is raised where it stands at 3
or more (R62, R63). -/
def missReading (s : State) : State :=
  let x := { s.sensor with misses := satAdd 255 s.sensor.misses 1, inFlight := none }
  let t := s.setSensor x
  if x.misses ≥ 3 && raisesSensor s.node.state then raise .sensor t else t

/-! ### Bias capture -/

/-- Whether a reading is within the still band of an anchor on all three axes (R65). -/
def withinBand (band : Nat) (anchor r : Axes) : Bool :=
  decide ((r.yaw - anchor.yaw).natAbs ≤ band ∧ (r.pitch - anchor.pitch).natAbs ≤ band
    ∧ (r.roll - anchor.roll).natAbs ≤ band)

/-- A run opened by a reading (R65). -/
def openRun (r : Axes) : Run := { anchor := r, acc := r, n := 1 }

/-- The run after a sample delivered in SETTLING (R65). -/
def runAfter (band : Nat) (valid : Bool) (r : Axes) : Option Run → Option Run
  | none => if valid then some (openRun r) else none
  | some x =>
    if valid then
      if withinBand band x.anchor r then
        some { anchor := x.anchor
               acc := { yaw := x.acc.yaw + r.yaw, pitch := x.acc.pitch + r.pitch
                        roll := x.acc.roll + r.roll }
               n := x.n + 1 }
      else some (openRun r)
    else none

/-- The run length n: 0 when no run is open (section 4.3). -/
def runLength : Option Run → Nat
  | none => 0
  | some x => x.n

/-- The bias of a complete run: floor((acc + 1024) / 2048) on each axis (R66). -/
def fullBias (acc : Axes) : Axes :=
  { yaw := floorDiv (acc.yaw + 1024) 2048, pitch := floorDiv (acc.pitch + 1024) 2048
    roll := floorDiv (acc.roll + 1024) 2048 }

/-- The bias of a run cut short by the timeout: round(acc / n) on each axis (R67). -/
def roughBias (x : Run) : Axes :=
  { yaw := roundDiv x.acc.yaw x.n, pitch := roundDiv x.acc.pitch x.n, roll := roundDiv x.acc.roll x.n }

/-- The capture's end by timeout (R67). -/
def timeoutBias (x : Sensor) : Sensor :=
  match x.run with
  | some r => if 256 ≤ r.n then { x with bias := roughBias r, biasRough := true }
              else { x with biasNone := true }
  | none => { x with biasNone := true }

/-- A sample delivered in SETTLING acts on the capture (R64 to R67). -/
def captureSample (smp : Sample) (s : State) : State :=
  let x := { s.sensor with
    settling := satAdd 30000 s.sensor.settling 1
    run := runAfter (stillBand s.setup) smp.valid smp.raw s.sensor.run }
  match x.run with
  | some r =>
    if r.n = 2048 then leaveSettling (s.setSensor { x with bias := fullBias r.acc })
    else if x.settling = 30000 then leaveSettling (s.setSensor (timeoutBias x))
    else s.setSensor x
  | none =>
    if x.settling = 30000 then leaveSettling (s.setSensor (timeoutBias x)) else s.setSensor x

/-! ### Encoder and index -/

/-- A quadrature line's level after its change (R69, R171). -/
def flipLine (q : QuadLevels) : QuadLine → QuadLevels
  | .a => { q with a := !q.a }
  | .b => { q with b := !q.b }

/-- Whether line A leads line B at a change of one line, from the levels before it (R69): A leads
when it leaves B's level, or when B comes to A's level. DEDUCED, unsafe: log entry 12. -/
def leadsA (q : QuadLevels) : QuadLine → Bool
  | .a => q.a == q.b
  | .b => q.a != q.b

/-- A change of one encoder line: the count moves by 1, up when A leads B (R69). -/
def stepEncoder (l : QuadLine) (s : State) : State :=
  if s.ident.role = .console then s
  else
    { s with
      sensor := { s.sensor with
        count := if leadsA s.pins.encoder l then s.sensor.count + 1 else s.sensor.count - 1 }
      pins := { s.pins with encoder := flipLine s.pins.encoder l } }

/-- The states in which an illegal transition of a homed joint raises ENCODER (R69). -/
def raisesEncoder : NodeState → Bool
  | .setup | .settling | .idle | .homing | .parked | .engaged | .hold | .parking | .fault => true
  | _ => false

/-- A change of both encoder lines together (R69). -/
def illegalStep (s : State) : State :=
  if s.ident.role = .console then s
  else
    let t : State :=
      { s with
        sensor := { s.sensor with illegal := satAdd 65535 s.sensor.illegal 1 }
        pins := { s.pins with encoder := { a := !s.pins.encoder.a, b := !s.pins.encoder.b } } }
    if s.node.homed && raisesEncoder s.node.state then raise .encoder t else t

/-- An index pulse (R70, R85): with the capture armed the count becomes the home reference, the homed
flag is set, the next sample's rate is 0 and the node leaves HOMING for PARKING. -/
def indexCaptured (s : State) : State :=
  if s.sensor.indexArmed then
    enterParking
      { s with
        sensor := { s.sensor with
          homeRef := s.sensor.count, indexArmed := false, prev := s.sensor.prev.map beforeCapture }
        node := { s.node with homed := true } }
  else s

/-! ### The sample ring -/

/-- The states in which a delivered sample writes a ring entry (R73). -/
def writesRing : NodeState → Bool
  | .settling | .idle | .homing | .parked | .engaged | .hold | .parking | .fault => true
  | _ => false

/-- A new entry joins as the newest; with 64 held the oldest is lost (R73). -/
def joinRing (rough : Nat) (ring : List RingEntry) : List RingEntry :=
  { rough := rough, reversal := false } :: ring.take 63

/-- The term of the entry that leaves at a write: that of the oldest of 64, otherwise 0 (R73, R107). -/
def leavingTerm (ring : List RingEntry) : Nat :=
  match ring.drop 63 with
  | [] => 0
  | e :: _ => e.rough

/-- The sum of the roughness terms held (R107). -/
def ringSum (ring : List RingEntry) : Nat := (ring.map (·.rough)).sum

/-- The sample's reversal flag written into the newest entry (R73, R129). -/
def writeReversal (flag : Bool) : List RingEntry → List RingEntry
  | [] => []
  | e :: rest => { e with reversal := flag } :: rest

end Sys2Proof.Machine
end

