-- ==== Sys2Proof/Machine/Vehicle.lean ====
section
/-! DEFINITION. The vehicle reference unit of BASE (chapter 6): attitude, heading reference, speed,
roughness, the regime and its announcement, and the VEHICLE frame. -/

namespace Sys2Proof.Machine

/-- Whether speed, roughness and regime run at a sample delivered in a state (R95). -/
def regimeRuns (committed : Bool) : NodeState → Bool
  | .settling | .idle | .homing | .parked | .engaged | .hold | .parking => true
  | .fault => committed
  | _ => false

/-- Whether the attitude is integrated at a sample delivered in a state (R95, R99). -/
def integrates (committed running : Bool) (st : NodeState) : Bool :=
  running && regimeRuns committed st && st != .settling

/-- The vehicle rates of a sample: raw rate less bias, saturated (R96). -/
def correctedRates (raw bias : Axes) : Axes :=
  { yaw := satRate (raw.yaw - bias.yaw), pitch := satRate (raw.pitch - bias.pitch)
    roll := satRate (raw.roll - bias.roll) }

/-- One sample of a leaking fine angle, pitch or roll (R98). -/
def leakStep (phi rate : Int) : Int := clampFine (phi + rate - truncDiv phi 4096)

/-- The fine attitude after an integrated sample (R97, R98). -/
def integrate (phi rate : Axes) : Axes :=
  { yaw := wrapFine (phi.yaw + rate.yaw), pitch := leakStep phi.pitch rate.pitch
    roll := leakStep phi.roll rate.roll }

/-- A fine angle rounded to counts, ties toward plus infinity (R100, R103). -/
def toCounts (x : Int) : Int := floorDiv (x + 32) 64

/-- The published attitude (R100). -/
def publishedAttitude (phi : Axes) : Axes :=
  { yaw := wrapAngle (toCounts phi.yaw), pitch := toCounts phi.pitch, roll := toCounts phi.roll }

/-- The published heading reference (R103). -/
def publishedHeading (h : Int) : Int := wrapAngle (toCounts h)

/-- The held aim after a sample's update from the selected aim part (R115): the part's aim, mode and
β when it is FRESH or STALE, unchanged otherwise. -/
def aimInUse (s : State) : HeldAim :=
  match selectedAim s.peers with
  | some q =>
    if q.fresh = .lost then s.corr.held
    else { aim := payloadAim q.content, mode := modeOfByte q.content.mode
           beta := q.content.beta.toNat }
  | none => s.corr.held

/-- The heading reference after an integrated sample, from the new fine yaw (R101, R102). -/
def followHeading (a : HeldAim) (phiYaw h : Int) : Int :=
  match a.mode with
  | .rigid => phiYaw
  | .stab => wrapFine (h + truncDiv (wrapFine (phiYaw - h) * (a.beta : Int)) 65536)

/-- The roughness term of a sample (R106). -/
def roughnessTerm (prev : Option Axes) (raw bias : Axes) : Nat :=
  match prev with
  | none => 0
  | some p =>
    let now := correctedRates raw bias
    let was := correctedRates p bias
    (now.pitch - was.pitch).natAbs + (now.roll - was.roll).natAbs

/-- The roughness index (R107). -/
def roughnessIndex (sum : Nat) : Nat := min 65535 (sum / 64)

/-- How many of a list of thresholds are at or below a value (R105, R107). -/
def countAtOrBelow (x : Nat) (ts : List Nat) : Nat := (ts.filter (· ≤ x)).length

/-- The speed band of a speed (R105). -/
def speedBand (setup : Setup) (v : Nat) : Nat :=
  let a := thresholdsT1 setup
  let b := thresholdsT2 setup
  countAtOrBelow v [a.s1, a.s2, a.s3, b.s4, b.s5, b.s6, b.s7]

/-- The roughness class of an index (R107). -/
def roughnessClass (setup : Setup) (index : Nat) : Nat :=
  let c := thresholdsT3 setup
  countAtOrBelow index [c.r1, c.r2, c.r3]

/-- The classification of a sample (R108): speed band times 4 plus roughness class. -/
def classify (setup : Setup) (v sum : Nat) : Regime :=
  Fin.ofNat 32 (speedBand setup v * 4 + roughnessClass setup (roughnessIndex sum))

/-- The speed timeout at a sample (R105). A capture taken after the sample time, before the sample is
delivered, is fresh. DEDUCED, unsafe: log entry 26. -/
def speedTimedOut (t : Time) (v : VehicleRef) : Bool :=
  match v.lastSpeed with
  | some c => atOrAfter t c && decide (500000 ≤ elapsed t c)
  | none => false

/-- The unit after the speed timeout test of a sample (R105). -/
def testSpeedTimeout (t : Time) (v : VehicleRef) : VehicleRef :=
  if speedTimedOut t v then { v with speed := 0, lastSpeed := none } else v

/-- The effect test of a sample (R110): a due pending regime is published, and BASE's gain directory
switches to it (R147). -/
def testEffect (t : Time) (s : State) : State :=
  match s.vref.pending with
  | some (r, due) =>
    if atOrAfter t due then
      switchRegime r (s.setVref { s.vref with published := some r, pending := none })
    else s
  | none => s

/-- The debounce of a classification (R108), with the announcement at 200 (R109). -/
def debounceStep (t : Time) (c : Regime) (v : VehicleRef) : VehicleRef :=
  if v.published = some c then { v with candidate := none, debounce := 0 }
  else
    let n := if v.candidate = some c then v.debounce + 1 else 1
    if n = 200 then
      { v with candidate := none, debounce := 0, pending := some (c, t + 10000#32) }
    else { v with candidate := some c, debounce := n }

/-- The content of a sample's VEHICLE frame (R111), before its stamps. -/
def vehicleBody (st : NodeState) (rates : Axes) (s : State) (seq : Byte) : VehiclePayload :=
  let v := s.vref
  let runs := regimeRuns s.setup.committed st
  let att := publishedAttitude v.phi
  { seq := seq
    valid := v.running && !hasCause s.node.record.causes .sensor
    pendingPresent := runs && v.pending.isSome
    age := 0
    attYaw := field16 att.yaw, attPitch := field16 att.pitch, attRoll := field16 att.roll
    rateYaw := field16 rates.yaw, ratePitch := field16 rates.pitch, rateRoll := field16 rates.roll
    heading := field16 (publishedHeading v.heading)
    regime := if runs then regimeByte v.published else 255
    pendingRegime :=
      match v.pending with
      | some (r, _) => if runs then BitVec.ofNat 8 r.val else 0
      | none => 0
    lead := 0
    speed := if runs then nat16 v.speed else 0
    roughness := if runs then nat16 (roughnessIndex v.roughSum) else 0 }

/-- The VEHICLE slot armed for a sample (R111), with the sample time and the effect time of a pending
regime. -/
def armVehicle (st : NodeState) (t : Time) (rates : Axes) (s : State) : State :=
  let effect :=
    if regimeRuns s.setup.committed st then s.vref.pending.map (·.2) else none
  s.setLink (armSlot .vehicle
    (fun q => { body := .vehicle (vehicleBody st rates s q), sampleTime := t, effectTime := effect })
    s.link)

/-- The unit's attitude work for a sample (R97 to R102). -/
def attitudeStep (st : NodeState) (rates : Axes) (s : State) : State :=
  if integrates s.setup.committed s.vref.running st then
    let phi := integrate s.vref.phi rates
    s.setVref { s.vref with
      phi := phi
      heading := followHeading (aimInUse s) phi.yaw s.vref.heading }
  else s

/-- The unit's roughness work for a sample with the ring write (R73, R106, R107). -/
def roughnessStep (st : NodeState) (smp : Sample) (s : State) : State :=
  let term :=
    if regimeRuns s.setup.committed st then roughnessTerm s.vref.prevRaw smp.raw smp.bias else 0
  let t := s.setVref { s.vref with prevRaw := some smp.raw }
  if writesRing st then
    { t with
      sensor := { t.sensor with ring := joinRing term t.sensor.ring }
      vref := { t.vref with roughSum := t.vref.roughSum + term - leavingTerm t.sensor.ring } }
  else t

/-- The unit's speed and regime work for a sample (R105, R108 to R110). -/
def regimeStep (st : NodeState) (t : Time) (s : State) : State :=
  if regimeRuns s.setup.committed st then
    let s1 := testEffect t (s.setVref (testSpeedTimeout t s.vref))
    s1.setVref
      (debounceStep t (classify s1.setup s1.vref.speed s1.vref.roughSum) s1.vref)
  else s

/-- The vehicle reference unit's work for a sample delivered in state st (R95), VEHICLE armed last. -/
def vehicleSample (st : NodeState) (smp : Sample) (s : State) : State :=
  let rates := correctedRates smp.raw smp.bias
  armVehicle st smp.time rates
    (regimeStep st smp.time (roughnessStep st smp (attitudeStep st rates s)))

/-- The speed from a pulse period in µs (R104). -/
def pulseSpeed (pulse period : Nat) : Nat :=
  if period = 0 then 1000 else min 1000 (pulse * 10000 / period)

/-- A falling edge on SPEED (R104). -/
def speedPulse (now : Time) (s : State) : State :=
  if s.ident.role = .base && regimeRuns s.setup.committed s.node.state then
    let v := s.vref
    s.setVref { v with
      speed := match v.lastSpeed with
               | some c => pulseSpeed (thresholdsT1 s.setup).pulse (elapsed now c)
               | none => v.speed
      lastSpeed := some now }
  else s

end Sys2Proof.Machine
end

