-- ==== Sys2Proof/Machine/Correction.lean ====
section
/-! DEFINITION. The correction unit (chapters 7 and 9): the aim, the demand with the vehicle-loss
rules, the joint's share, the position loop, the oscillation limit and the REPORT. -/

namespace Sys2Proof.Machine

/-! ### Aim -/

/-- The console-loss condition at a sample (R167): the selected aim part is LOST or ABSENT. -/
def consoleLost (s : State) : Bool := !isCurrent (selectedAim s.peers)

/-- The held aim updated at a sample (R115). -/
def takeAim (s : State) : State := s.setCorr { s.corr with held := aimInUse s }

/-! ### Demand -/

/-- A difference on an axis: wrapped on yaw, saturated to −32767..32767 on pitch and roll (R116,
R164, R165). -/
def axisRange (r : Role) (x : Int) : Int := if isYaw r then wrapAngle x else satRate x

/-- The STAB demand (R116) from the attitude now, the heading reference and the aim of the joint's
axis. -/
def stabDemand (r : Role) (attitude heading aim : Int) : Int :=
  if isYaw r then wrapDiff (wrapAngle (heading + aim)) attitude
  else satRate (clampSight aim - attitude)

/-- The selected vehicle part is usable: FRESH or STALE with valid set (R163). -/
def vehicleUsable (s : State) : Bool :=
  match selectedVehicle s.peers with
  | some q => q.fresh != .lost && q.content.valid
  | none => false

/-- The vehicle-loss condition at a sample (R163); at BASE it does not arise. -/
def vehicleLost (s : State) : Bool :=
  s.ident.role != .base && s.corr.held.mode == .stab && !vehicleUsable s

/-- The STAB demand of a joint that is not BASE, from its selected vehicle part at the sample time t
(R116, R51). -/
def remoteDemand (t : Time) (s : State) : Int :=
  match selectedVehicle s.peers with
  | some q =>
    stabDemand s.ident.role (axisOf s.ident.role (attitudeNow t q)) q.content.heading.toInt
      (axisOf s.ident.role s.corr.held.aim)
  | none => 0

/-- The STAB demand of BASE, from its own published attitude and heading reference (R116). -/
def ownDemand (s : State) : Int :=
  stabDemand .base (publishedAttitude s.vref.phi).yaw (publishedHeading s.vref.heading)
    s.corr.held.aim.yaw

/-- One sample of the reacquire ramp at reacquire count j (R165). -/
def rampDemand (r : Role) (aim offset stab : Int) (j : Nat) : Int :=
  let gap := axisRange r (axisRange r (aim + offset) - stab)
  axisRange r (stab + truncDiv (gap * (64 - (j : Int))) 64)

/-- Whether the reacquire ramp advances at a sample delivered in a state (R165): a ramp that was under
way in the ENGAGED which FAULT ended stands in that FAULT (R14). DEDUCED, unsafe: log entry 15. -/
def rampAdvances (st : NodeState) (c : Correction) : Bool :=
  !(st == .fault && c.loss == .reacquiring && c.rampHalted)

/-- The vehicle-loss state after a ramp sample formed at reacquire count j (R165). -/
def rampStep (advances : Bool) (j : Nat) (c : Correction) : Correction :=
  if advances then
    { c with loss := if j + 1 = 64 then .tracking else .reacquiring, reacquire := j + 1
             rampHalted := false }
  else { c with loss := .reacquiring, reacquire := j }

/-- The demand of a sample delivered in state st, with the vehicle-loss state after it (R116, R117,
R163 to R166). -/
def formDemand (st : NodeState) (t : Time) (s : State) : Int × Correction :=
  let r := s.ident.role
  let c := s.corr
  let aim := axisOf r c.held.aim
  if c.held.mode = .rigid then (aim, { c with loss := .tracking, reacquire := 0 })
  else if r = .base then (ownDemand s, c)
  else if vehicleLost s then
    if c.loss = .frozen then (axisRange r (aim + c.offset), c)
    else
      let o := axisRange r (c.demandPrev - aim)
      (axisRange r (aim + o), { c with loss := .frozen, offset := o, reacquire := 0 })
  else
    let stab := remoteDemand t s
    let j := if c.loss = .frozen then 0 else c.reacquire
    if c.loss = .tracking then (stab, c)
    else (rampDemand r aim c.offset stab j, rampStep (rampAdvances st c) j c)

/-! ### The joint's share -/

/-- The centre of a joint's travel (R119). -/
def travelCentre (setup : Setup) : Int :=
  if isLimited setup then floorDiv ((geoG2 setup).min + (geoG2 setup).max) 2 else (geoG3 setup).park

/-- The centre offset (R119); 0 while not homed. -/
def centreOffset (s : State) (angle : Int) : Int :=
  if s.node.homed then
    if isLimited s.setup then satRate (angle - travelCentre s.setup)
    else wrapDiff angle (travelCentre s.setup)
  else 0

/-- The in-cushion condition (R119). -/
def inCushion (s : State) (angle : Int) : Bool :=
  let g2 := geoG2 s.setup
  let cushion : Int := ((geoG3 s.setup).cushion : Int)
  s.node.homed && isLimited s.setup
    && decide (angle < g2.min + cushion ∨ g2.max - cushion < angle)

/-- Whether the fine partner is engaged as far as a coarse joint hears (R120): its case is FRESH or
STALE and its report carries state code 5. -/
def partnerEngaged (s : State) : Bool :=
  match partnerPart s.peers with
  | some q => q.fresh != .lost && q.content.state == 5
  | none => false

/-- The split state after a split sample (R120). -/
def splitStep (r : Role) (demand split alpha : Int) : Int :=
  if isYaw r then wrapAngle (split + truncDiv (wrapDiff demand split * alpha) 65536)
  else satAngle (split + truncDiv ((demand - split) * alpha) 65536)

/-- IN_CUSHION as a report part carries it (R194). -/
def reportsCushion (p : ReportPayload) : Bool := p.flags.getLsbD 0

/-- The relief from the fine partner's report (R120). -/
def relief (p : ReportPayload) (rho : Int) : Int :=
  truncDiv (p.offset.toInt * (if reportsCushion p then 4 * rho else rho)) 256

/-- The range of a coarse joint's split target (R120). -/
def jointRange (setup : Setup) (x : Int) : Int := if isLimited setup then satAngle x else wrapAngle x

/-- A fine joint's target from the demand and its coarse partner (R122). -/
def fineTarget (t : Time) (demand : Int) (s : State) : Int :=
  let x :=
    match partnerPart s.peers with
    | some q => axisRange s.ident.role (demand - partnerAngle s.ident.role t q)
    | none => demand
  if isLimited s.setup then x else wrapAngle x

/-- The unclamped target of a sample delivered in state st, with the split state after it (R120 to
R122). -/
def formTarget (st : NodeState) (t : Time) (demand : Int) (s : State) : Int × Int :=
  let g := effectiveGains s.gains
  if isCoarse s.ident.role then
    if st = .engaged then
      match partnerPart s.peers with
      | some q =>
        if partnerEngaged s then
          let c := splitStep s.ident.role demand s.corr.split g.alpha
          (jointRange s.setup (c + relief q.content g.rho), c)
        else (demand, demand)
      | none => (demand, demand)
    else (demand, s.corr.split)
  else (fineTarget t demand s, s.corr.split)

/-- Below the travel window (R123). -/
def belowWindow (setup : Setup) (x : Int) : Bool := isLimited setup && decide (x < (geoG2 setup).min)

/-- Above the travel window (R123). -/
def aboveWindow (setup : Setup) (x : Int) : Bool := isLimited setup && decide ((geoG2 setup).max < x)

/-- The target clamped to the travel window of a limited joint (R123). -/
def clampTarget (setup : Setup) (x : Int) : Int :=
  if belowWindow setup x then (geoG2 setup).min
  else if aboveWindow setup x then (geoG2 setup).max
  else x

/-- The strain counter after a sample (R124). -/
def strainAfter (st : NodeState) (clamped : Bool) (n : Nat) : Nat :=
  if st = .engaged ∧ clamped then satAdd 65535 n 1 else 0

/-- STRAINED set on the page in use (R124). -/
def markStrained (g : GainDir) : GainDir :=
  match g.page with
  | some p => putPage g p { pageAt g p with strained := true }
  | none => g

/-- What a sample's demand and target come to, as the rest of the sample reads them. -/
structure Aimed where
  target : Int
  atMin : Bool
  atMax : Bool
  vehicleLost : Bool
  consoleLost : Bool
  deriving DecidableEq, Repr

/-- The aim, demand and target of a sample delivered in state st at which a demand is formed (R114 to
R124). -/
def aimSample (st : NodeState) (t : Time) (s : State) : Aimed × State :=
  let s1 := takeAim s
  let d := formDemand st t s1
  let s2 := s1.setCorr d.2
  let f := formTarget st t d.1 s2
  let below := belowWindow s2.setup f.1
  let above := aboveWindow s2.setup f.1
  let strain := strainAfter st (below || above) s2.corr.strain
  let s3 := s2.setCorr { s2.corr with split := f.2, demandPrev := d.1, strain := strain }
  let s4 := if st = .engaged ∧ 100 ≤ strain then s3.setGains (markStrained s3.gains) else s3
  ({ target := clampTarget s2.setup f.1
     atMin := s.node.homed && below
     atMax := s.node.homed && above
     vehicleLost := vehicleLost s1
     consoleLost := consoleLost s }, s4)

/-! ### The position loop -/

/-- A difference of joint angles: wrapped at a continuous joint, plain at a limited one (R126). -/
def loopDiff (setup : Setup) (x y : Int) : Int := if isLimited setup then x - y else wrapDiff x y

/-- Step 3 of the command at a limited joint (R128): d at or below 0 stops a command toward the
edge; inside the cushion it is scaled. DEDUCED, unsafe: log entry 13. In a window narrower than twice the
cushion a command can point away from the nearer edge and still have d below the cushion width: the table
of R128, which judges by the edge pointed toward, scales it, and the sentence after the table says that it
is not affected. The model follows the table. DESIGN CHOICE, unsafe: log entry 34. -/
def cushionStep (setup : Setup) (angle u : Int) : Int :=
  if isLimited setup then
    let width : Int := ((geoG3 setup).cushion : Int)
    let d := if 0 < u then (geoG2 setup).max - angle else angle - (geoG2 setup).min
    if u = 0 then u
    else if d ≤ 0 then 0
    else if d < width then truncDiv (u * d) width
    else u
  else u

/-- Step 1 of the command (R126, R127): proportional, feedforward and damping terms, saturated. -/
def loopSum (setup : Setup) (g : GainSet) (target targetPrev angle rate : Int) : Int :=
  let e := satRate (loopDiff setup target angle)
  let up := truncDiv (e * g.kp) 16
  let ff := satRate (loopDiff setup target targetPrev * 64)
  let ud := truncDiv ((ff - rate) * g.kd) 256
  satRate (up + ff + ud)

/-- The command of an ENGAGED sample in its five steps (R127). -/
def loopCommand (setup : Setup) (g : GainSet) (target targetPrev commandPrev angle rate : Int) : Int :=
  let u1 := loopSum setup g target targetPrev angle rate
  let u2 := clamp (-g.lr) g.lr u1
  let u3 := cushionStep setup angle u2
  let u4 := clamp (commandPrev - g.la) (commandPrev + g.la) u3
  clamp (-g.lr) g.lr u4

/-- The reversal limit (R154): at a count of 12 the page in use is withdrawn and the regime resolved
again, or on page 0 UNSTABLE is raised. -/
def reversalStep (s : State) : State :=
  if reversalCount s.sensor.ring = 12 then
    match s.gains.page with
    | none => s
    | some p =>
      if p = 0 then raise .unstable s
      else
        let t := s.setGains (putPage s.gains p { pageAt s.gains p with withdrawn := true })
        match t.gains.regime with
        | some r => resolveInUse r t
        | none => pageChange 0 t
  else s

/-- An ENGAGED sample whose command is sent (R77, R129, R142, R153, R154): the command recorded, the
monitor's flag written, the blend advanced, the reversal limit applied. -/
def engagedSent (lr target u : Int) (s : State) : State :=
  let flag := reversalFlag lr u s.corr.sign
  reversalStep
    { s with
      drive := { s.drive with lastCommand := u }
      corr := { s.corr with targetPrev := target, commandPrev := u
                            sign := signAfter lr u s.corr.sign }
      sensor := { s.sensor with ring := writeReversal flag s.sensor.ring }
      gains := { s.gains with blend := satAdd 64 s.gains.blend 1 } }

/-- The command of a sample delivered in ENGAGED (R125 to R129): formed with the effective gains, then
judged by the drive interface's tests, then sent. -/
def engagedSample (target angle rate : Int) (s : State) : State :=
  let g := effectiveGains s.gains
  let u := loopCommand s.setup g target s.corr.targetPrev s.corr.commandPrev angle rate
  if s.drive.driveFault || anyTripped s then
    raiseFound s.drive.driveFault (if anyTripped s then some .endStop else none) s
  else engagedSent g.lr target u s

/-- The drive command of a sample by the state it is delivered in (R77, R114). -/
def commandSample (st : NodeState) (target angle rate : Int) (s : State) : State :=
  match st with
  | .homing => homeSample s
  | .parking => parkSample angle rate s
  | .engaged => engagedSample target angle rate s
  | .hold => holdSample s
  | _ => sendCommand 0 s

/-! ### The REPORT -/

/-- The content of a REPORT from SETTLING on (R131, R132), before its stamp. Its drive command is the last
one sent at the end of the sample, 0 where a park move has arrived in PARKED or HOLD. DEDUCED, unsafe: log
entry 16. -/
def reportBody (a : Aimed) (angle rate : Int) (s : State) (seq : Byte) : ReportPayload :=
  { seq := seq
    role := BitVec.ofNat 4 (roleCode s.ident.role)
    state := BitVec.ofNat 4 (stateCode s.node.state)
    age := 0
    angle := field16 angle
    rate := field16 rate
    offset := field16 (centreOffset s angle)
    command := field16 s.drive.lastCommand
    flags := flagsWord
      { inCushion := inCushion s angle, atMin := a.atMin, atMax := a.atMax
        strain := decide (100 ≤ s.corr.strain)
        biasRough := s.sensor.biasRough, biasNone := s.sensor.biasNone
        vehicleLost := a.vehicleLost, consoleLost := a.consoleLost
        ramping := ramping s.gains, homed := s.node.homed }
    hears := hearsWord s.peers
    ramping := ramping s.gains
    page := BitVec.ofNat 3 (s.gains.page.getD 0).val
    regime := regimeByte s.gains.regime
    cause :=
      if s.node.state = .fault then BitVec.ofNat 8 (firstCauseCode s.node.record.first) else 0 }

/-- The content of a REPORT in SETUP, and in a FAULT with no commit made (R133). -/
def setupReportBody (s : State) (seq : Byte) : ReportPayload :=
  { seq := seq
    role := BitVec.ofNat 4 (roleCode s.ident.role)
    state := BitVec.ofNat 4 (stateCode s.node.state)
    age := 0, angle := 0, rate := 0, offset := 0, command := 0, flags := 0
    hears := hearsWord s.peers
    ramping := ramping s.gains
    page := BitVec.ofNat 3 (s.gains.page.getD 0).val
    regime := regimeByte s.gains.regime
    cause :=
      if s.node.state = .fault then BitVec.ofNat 8 (firstCauseCode s.node.record.first) else 0 }

/-- The REPORT slot armed with a sample's content (R131). -/
def armReport (t : Time) (content : Byte → ReportPayload) (s : State) : State :=
  s.setLink (armSlot .report
    (fun q => { body := .report (content q), sampleTime := t, effectTime := none }) s.link)

/-- Whether a demand is formed at a sample delivered in a state (R114): from SETTLING on, but for a
FAULT with no commit made. -/
def formsDemand (committed : Bool) : NodeState → Bool
  | .settling | .idle | .homing | .parked | .engaged | .hold | .parking => true
  | .fault => committed
  | _ => false

/-- The bias capture takes the sample where it is delivered in SETTLING (R64), once the correction unit
has read the vehicle reference unit for it (R95). DEDUCED, unsafe: log entry 17. -/
def settlingSample (st : NodeState) (smp : Sample) (s : State) : State :=
  if st = .settling then captureSample smp s else s

/-- The correction unit's and the drive interface's work for a sample delivered in state st, with the
bias capture in SETTLING, the REPORT armed last (R114). -/
def correctionSample (st : NodeState) (smp : Sample) (s : State) : State :=
  if formsDemand s.setup.committed st then
    let a := aimSample st smp.time s
    let t := settlingSample st smp (commandSample st a.1.target smp.angle smp.rate a.2)
    armReport smp.time (reportBody a.1 smp.angle smp.rate t) t
  else
    let t := sendCommand 0 (takeAim s)
    armReport smp.time (setupReportBody t) t

/-- The hold exit count at a sample delivered in HOLD, once its REPORT is armed (R162). -/
def holdExitStep (st : NodeState) (s : State) : State :=
  if st = .hold ∧ s.node.state = .hold then
    if holdCause s then s.setNode { s.node with holdExit := 0 }
    else if s.node.holdExit + 1 = 50 then enterEngaged s
    else s.setNode { s.node with holdExit := s.node.holdExit + 1 }
  else s

end Sys2Proof.Machine
end

