-- ==== Sys2Proof/Machine/Setup.lean ====
section
/-! DEFINITION. The setup side of the setup and query unit (chapter 11): the checks of a SETUP frame in
their order, the items as they are held, and COMMIT. -/

namespace Sys2Proof.Machine

/-! ### Items from their values (R182, R195): none is a refusal with RANGE -/

/-- G1: scale 1..65535, sign 0 or 1. -/
def readG1 (v1 v2 : Half) : Option ItemG1 :=
  if 1 ≤ v1.toNat ∧ v2.toNat ≤ 1 then some { scale := v1.toNat, negative := v2 == 1 } else none

/-- G2: continuous flag 0 or 1; a limited joint's window has min below max. -/
def readG2 (v1 v2 v3 : Half) : Option ItemG2 :=
  if v3 = 1 ∨ (v3 = 0 ∧ v1.toInt < v2.toInt) then
    some { min := v1.toInt, max := v2.toInt, continuous := v3 == 1 }
  else none

/-- G3: cushion width 0..8192; every park angle is in range. -/
def readG3 (v1 v2 : Half) : Option ItemG3 :=
  if v1.toNat ≤ 8192 then some { cushion := v1.toNat, park := v2.toInt } else none

/-- G4: home direction 0 or 1, home rate 1..4000, park rate 1..8000. -/
def readG4 (v1 v2 v3 v4 : Half) : Option ItemG4 :=
  if v2.toNat ≤ 1 ∧ (1 ≤ v3.toNat ∧ v3.toNat ≤ 4000) ∧ (1 ≤ v4.toNat ∧ v4.toNat ≤ 8000) then
    some { homeAngle := v1.toInt, decreasing := v2 == 1, homeRate := v3.toNat,
           parkRate := v4.toNat }
  else none

/-- G5: still band 1..1024. -/
def readG5 (v1 : Half) : Option Nat :=
  if 1 ≤ v1.toNat ∧ v1.toNat ≤ 1024 then some v1.toNat else none

/-- C1: every value is in range. -/
def readC1 (v1 v2 v3 : Half) : ItemC1 := { yaw := v1.toInt, pitch := v2.toInt, roll := v3.toInt }

/-- C2: aim limits 0..16384; every β is in range. -/
def readC2 (v1 v2 v3 : Half) : Option ItemC2 :=
  if v1.toNat ≤ 16384 ∧ v2.toNat ≤ 16384 then
    some { pitchLimit := v1.toNat, rollLimit := v2.toNat, beta := v3.toNat }
  else none

/-- P(n)a: Kp 0..4095, Kd 0..1023, Lr 0..32767, La 1..4096. -/
def readPageA (v1 v2 v3 v4 : Half) : Option ItemPageA :=
  if v1.toNat ≤ 4095 ∧ v2.toNat ≤ 1023 ∧ v3.toNat ≤ 32767 ∧ (1 ≤ v4.toNat ∧ v4.toNat ≤ 4096) then
    some { kp := v1.toNat, kd := v2.toNat, lr := v3.toNat, la := v4.toNat }
  else none

/-- P(n)b: every α is in range, ρ 0..255. -/
def readPageB (v1 v2 : Half) : Option ItemPageB :=
  if v2.toNat ≤ 255 then some { alpha := v1.toNat, rho := v2.toNat } else none

/-- One value of D(m) is in range: a page number 0..7, or 255 for a gap. -/
def dirValueOk (v : Half) : Bool := v.toNat < 8 || v.toNat == 255

/-- A value of D(m) as held (R183): a page 0..7, or none for a gap. -/
def dirValue (v : Half) : Option PageNo :=
  if h : v.toNat < 8 then some ⟨v.toNat, h⟩ else none

/-- D(m): the page numbers of four regimes. -/
def readDir (v1 v2 v3 v4 : Half) : Option ItemDir :=
  if dirValueOk v1 && dirValueOk v2 && dirValueOk v3 && dirValueOk v4 then
    some { d0 := dirValue v1, d1 := dirValue v2, d2 := dirValue v3, d3 := dirValue v4 }
  else none

/-- T1: pulse distance 1..65535, speed thresholds 0..1000. -/
def readT1 (v1 v2 v3 v4 : Half) : Option ItemT1 :=
  if 1 ≤ v1.toNat ∧ v2.toNat ≤ 1000 ∧ v3.toNat ≤ 1000 ∧ v4.toNat ≤ 1000 then
    some { pulse := v1.toNat, s1 := v2.toNat, s2 := v3.toNat, s3 := v4.toNat }
  else none

/-- T2: speed thresholds 0..1000. -/
def readT2 (v1 v2 v3 v4 : Half) : Option ItemT2 :=
  if v1.toNat ≤ 1000 ∧ v2.toNat ≤ 1000 ∧ v3.toNat ≤ 1000 ∧ v4.toNat ≤ 1000 then
    some { s4 := v1.toNat, s5 := v2.toNat, s6 := v3.toNat, s7 := v4.toNat }
  else none

/-- T3: every roughness threshold is in range. -/
def readT3 (v1 v2 v3 : Half) : ItemT3 := { r1 := v1.toNat, r2 := v2.toNat, r3 := v3.toNat }

/-- G2 and G3 held together (R182): the park angle lies in the window of a limited joint, min and max
inclusive. -/
def windowHolds (a : ItemG2) (b : ItemG3) : Bool :=
  a.continuous || decide (a.min ≤ b.park ∧ b.park ≤ a.max)

/-- A G2 against a G3 already taken (R182). -/
def crossG2 (a : ItemG2) (held : Option ItemG3) : Bool :=
  match held with
  | some b => windowHolds a b
  | none => true

/-- A G3 against a G2 already taken (R182). -/
def crossG3 (b : ItemG3) (held : Option ItemG2) : Bool :=
  match held with
  | some a => windowHolds a b
  | none => true

/-- The items held once an item's values are taken (R183), none where R182 refuses them. COMMIT holds
no values. -/
def takeItem (i : ItemName) (v1 v2 v3 v4 : Half) (t : Items) : Option Items :=
  match i with
  | .g1 => (readG1 v1 v2).map (fun x => { t with g1 := some x })
  | .g2 =>
    match readG2 v1 v2 v3 with
    | some x => if crossG2 x t.g3 then some { t with g2 := some x } else none
    | none => none
  | .g3 =>
    match readG3 v1 v2 with
    | some x => if crossG3 x t.g2 then some { t with g3 := some x } else none
    | none => none
  | .g4 => (readG4 v1 v2 v3 v4).map (fun x => { t with g4 := some x })
  | .g5 => (readG5 v1).map (fun x => { t with g5 := some x })
  | .c1 => some { t with c1 := some (readC1 v1 v2 v3) }
  | .c2 => (readC2 v1 v2 v3).map (fun x => { t with c2 := some x })
  | .pageA n => (readPageA v1 v2 v3 v4).map (fun x => { t with pageA := t.pageA.set n (some x) })
  | .pageB n => (readPageB v1 v2).map (fun x => { t with pageB := t.pageB.set n (some x) })
  | .dir m => (readDir v1 v2 v3 v4).map (fun x => { t with dir := t.dir.set m (some x) })
  | .t1 => (readT1 v1 v2 v3 v4).map (fun x => { t with t1 := some x })
  | .t2 => (readT2 v1 v2 v3 v4).map (fun x => { t with t2 := some x })
  | .t3 => some { t with t3 := some (readT3 v1 v2 v3) }
  | .commit => some t

/-! ### Commit (R184) -/

/-- The page numbers. -/
def pageNos : List PageNo := [0, 1, 2, 3, 4, 5, 6, 7]

/-- Whether a page has exactly one half taken. -/
def halfGiven (t : Items) (n : PageNo) : Bool := t.pageA[n].isSome != t.pageB[n].isSome

/-- Commit check 1: everything the role needs is taken. -/
def complete (r : Role) (t : Items) : Bool :=
  let geometry :=
    if isJoint r then
      t.g1.isSome && t.g2.isSome && t.g3.isSome && t.g4.isSome && t.g5.isSome
        && t.pageA[0].isSome && t.pageB[0].isSome
    else t.c1.isSome && t.c2.isSome
  geometry && !pageNos.any (halfGiven t)
    && (r != .base || (t.t1.isSome && t.t2.isSome && t.t3.isSome))

/-- Whether a list of numbers is strictly ascending. -/
def ascending : List Nat → Bool
  | a :: b :: rest => decide (a < b) && ascending (b :: rest)
  | _ => true

/-- Commit check 2: at BASE both runs of thresholds are strictly ascending. -/
def ordered (r : Role) (t : Items) : Bool :=
  if r = .base then
    match t.t1, t.t2, t.t3 with
    | some a, some b, some c =>
      ascending [a.s1, a.s2, a.s3, b.s4, b.s5, b.s6, b.s7] && ascending [c.r1, c.r2, c.r3]
    | _, _, _ => false
  else true

/-- A page from its two items (R136): present with six gains once both are taken. -/
def filledPage (a : Option ItemPageA) (b : Option ItemPageB) : Page :=
  match a, b with
  | some x, some y =>
    { present := true, withdrawn := false, used := false, strained := false
      gains := { kp := x.kp, kd := x.kd, lr := x.lr, la := x.la, alpha := y.alpha, rho := y.rho } }
  | _, _ => Page.absent

/-- The page number held for a regime, none for a gap (R183): D(m) covers regimes 4m to 4m+3. -/
def heldEntry (t : Items) (r : Fin 32) : Option PageNo :=
  match t.dir[r.val / 4]? with
  | some (some d) =>
    match r.val % 4 with
    | 0 => d.d0
    | 1 => d.d1
    | 2 => d.d2
    | _ => d.d3
  | _ => none

/-- A directory entry from the page number held (R136). -/
def filledEntry (p : Option PageNo) : DirEntry :=
  match p with
  | some n => { present := true, page := n, visited := false }
  | none => DirEntry.gap

/-- The gain directory with the page or the four entries of an item just taken filled (R183, R136): a
page is present once both its items are taken, an entry once its row is. DEDUCED, unsafe: log entry
27. -/
def fillItem (i : ItemName) (t : Items) (g : GainDir) : GainDir :=
  match i with
  | .pageA n | .pageB n => putPage g n (filledPage t.pageA[n] t.pageB[n])
  | .dir m =>
    { g with
      entries := Vector.ofFn (fun r : Fin 32 =>
        if r.val / 4 = m.val then filledEntry (heldEntry t r) else g.entries[r]) }
  | _ => g

/-- The gain directory's tables from the items taken, as they come into use at the commit (R184): every
mark and WITHDRAWN flag clear. -/
def fillTables (t : Items) (g : GainDir) : GainDir :=
  { g with
    pages := Vector.ofFn (fun n => filledPage t.pageA[n] t.pageB[n])
    entries := Vector.ofFn (fun r => filledEntry (heldEntry t r)) }

/-- A failed commit (R181, R184): the error is recorded and phase 1 is open again. -/
def failCommit (e : SetupError) (s : State) : State :=
  s.setSetup { s.setup with lastError := e, phase := 1 }

/-- A successful commit (R184): the held values come into use, the tables as the items taken fill them;
a joint role's working context is established and the node enters SETTLING, a CONSOLE enters LIVE. -/
def passCommit (s : State) : State :=
  let t := s.setSetup { s.setup with lastError := .none, committed := true }
  if isJoint s.ident.role then
    enterSettling (t.setGains (establish (fillTables s.setup.items s.gains)))
  else enterLive t

/-- The commit checks in their order (R184). -/
def commitSetup (s : State) : State :=
  if complete s.ident.role s.setup.items = false then failCommit .incomplete s
  else if ordered s.ident.role s.setup.items = false then failCommit .order s
  else passCommit s

/-! ### Judging a SETUP frame -/

/-- A SETUP frame refused with an error (R179 to R182): nothing else of the setup changes. -/
def refuseSetup (e : SetupError) (s : State) : State := s.setSetup { s.setup with lastError := e }

/-- The ignored-command count increased by 1 (R13, R179). -/
def countIgnored (s : State) : State :=
  s.setNode { s.node with ignored := satAdd 65535 s.node.ignored 1 }

/-- An auth failure counted (R13, R179). -/
def countAuthFailure (s : State) : State :=
  s.setSetup { s.setup with authFailures := satAdd 65535 s.setup.authFailures 1 }

/-- A SETUP frame past the state and auth checks (R180 to R184). -/
def judgeItem (p : SetupPayload) (s : State) : State :=
  match itemOfCode p.item with
  | none => refuseSetup .role s
  | some i =>
    if roleHasItem s.ident.role i = false then refuseSetup .role s
    else if i = .commit then commitSetup s
    else if itemPhase i < s.setup.phase then refuseSetup .sequence s
    else
      match takeItem i p.v1 p.v2 p.v3 p.v4 s.setup.items with
      | none => refuseSetup .range s
      | some items =>
        (s.setSetup { s.setup with items := items, phase := itemPhase i, lastError := .none }).setGains
          (fillItem i items s.gains)

/-- A SETUP frame handed to the unit (R179): the state check, then the auth check. -/
def takeSetup (p : SetupPayload) (s : State) : State :=
  if s.node.state ≠ .setup then refuseSetup .state (countIgnored s)
  else if p.auth ≠ s.ident.auth then refuseSetup .auth (countAuthFailure s)
  else judgeItem p s

end Sys2Proof.Machine
end

