-- ==== Sys2Proof/Machine/Query.lean ====
section
/-! DEFINITION. The query side of the setup and query unit (chapter 11): the snapshot of each item and
part, and the REPLY that carries it (R185, R186, R192, R196). -/

namespace Sys2Proof.Machine

/-! ### Fields of a snapshot (R190, R196) -/

/-- A value of two bytes, high / low. -/
def pair (hi lo : Nat) : Half := BitVec.ofNat 8 hi ++ BitVec.ofNat 8 lo

/-- A value of four nibbles, the first highest. -/
def nibbles (a b c d : Nat) : Half :=
  BitVec.ofNat 4 a ++ BitVec.ofNat 4 b ++ BitVec.ofNat 4 c ++ BitVec.ofNat 4 d

/-- A 16-bit value with bit n set where the nth of a list holds, from bit 0. -/
def bitsValue : List Bool → Nat
  | [] => 0
  | b :: rest => b.toNat + 2 * bitsValue rest

/-- The high half of a 32-bit quantity. -/
def highHalf (x : BitVec 32) : Half := x.extractLsb' 16 16

/-- The low half of a 32-bit quantity. -/
def lowHalf (x : BitVec 32) : Half := x.extractLsb' 0 16

/-- An address in a byte field, 255 for none (R190). -/
def addressByte : Option (Fin 7) → Nat
  | some a => a.val
  | none => 255

/-- An address in a 4-bit field, 15 for none (R190). -/
def addressNibble : Option (Fin 7) → Nat
  | some a => a.val
  | none => 15

/-- A page number in a byte field, 255 for none (R190). -/
def pageByte : Option PageNo → Nat
  | some p => p.val
  | none => 255

/-- All values 0 (R185). -/
def ReplyValues.zero : ReplyValues :=
  { v0 := 0, v1 := 0, v2 := 0, v3 := 0, v4 := 0, v5 := 0, v6 := 0, v7 := 0 }

/-! ### The items (R186, R196) -/

/-- IDENTITY. -/
def identityValues (now : Time) (s : State) : ReplyValues :=
  { v0 := s.ident.address.setWidth 16
    v1 := nat16 (roleCode s.ident.role)
    v2 := s.ident.auth
    v3 := s.ident.check.setWidth 16
    v4 := nat16 s.ident.valid.toNat
    v5 := nat16 s.ident.testHigh.toNat
    v6 := highHalf now
    v7 := lowHalf now }

/-- NODE, part 0. A CONSOLE reports its drive and switch fields as 0 and its homed flag false. -/
def nodeValues (s : State) : ReplyValues :=
  let joint := isJoint s.ident.role
  { v0 := pair (stateCode s.node.state) (enteredFromCode s.node.record.enteredFrom)
    v1 := nat16 (bitsValue [joint && s.node.homed, s.node.latch, joint && s.drive.minTripped,
      joint && s.drive.maxTripped, joint && s.drive.driveFault])
    v2 := nat16 s.node.ignored
    v3 := pair (firstCauseCode s.node.record.first) s.node.record.later
    v4 := s.node.record.causes
    v5 := highHalf s.node.record.firstUptime
    v6 := lowHalf s.node.record.firstUptime
    v7 := if joint then field16 s.drive.lastCommand else 0 }

/-- The move count: the homing count in HOMING, the park count in PARKING, otherwise 0. -/
def moveCount (d : Drive) : Nat :=
  match d.home, d.park with
  | some m, _ => m.count
  | none, some m => m.count
  | none, none => 0

/-- The search direction: none 0, + 1, − 2 (R194). -/
def searchCode (d : Drive) : Nat :=
  match d.home with
  | some m => if m.up then 1 else 2
  | none => 0

/-- The reversal count in HOMING, otherwise 0. -/
def searchReversals (d : Drive) : Nat :=
  match d.home with
  | some m => m.reversals
  | none => 0

/-- The arrival count in PARKING, otherwise 0. -/
def arrivalCount (d : Drive) : Nat :=
  match d.park with
  | some m => m.arrival
  | none => 0

/-- NODE, part 1. -/
def moveValues (s : State) : ReplyValues :=
  { v0 := nat16 (moveCount s.drive)
    v1 := pair (searchCode s.drive) (searchReversals s.drive)
    v2 := nat16 (arrivalCount s.drive)
    v3 := nat16 (if s.node.state = .hold then s.node.holdExit else 0)
    v4 := pair (lossCode s.corr.loss) s.corr.reacquire
    v5 := field16 s.corr.offset
    v6 := field16 s.corr.demandPrev
    v7 := 0 }

/-- Whether a slot holds a frame, ARMED or IN_FLIGHT. -/
def holdsFrame : Slot → Bool
  | .empty => false
  | .armed _ _ | .inFlight _ _ _ => true

/-- LINK. -/
def linkValues (l : Link) : ReplyValues :=
  let held := bitsValue [holdsFrame l.slots.stop, holdsFrame l.slots.vehicle,
    holdsFrame l.slots.aim, holdsFrame l.slots.report, holdsFrame l.slots.command,
    holdsFrame l.slots.reply]
  { v0 := pair (healthCode l.health * 64 + held) l.errors
    v1 := pair l.successRun l.receptionRun
    v2 := l.txOk
    v3 := l.txError
    v4 := l.rxOk
    v5 := l.rxError
    v6 := l.superseded
    v7 := l.dropped }

/-- PEER SUMMARY. -/
def summaryValues (s : State) : ReplyValues :=
  let role := fun r => addressNibble (roleMap s.peers s.ident.role r)
  { ReplyValues.zero with
    v0 := (hearsWord s.peers).setWidth 16
    v1 := nibbles (role .base) (role .boom) (role .pan) (role .tilt)
    v2 := nibbles (role .roll) (addressNibble s.peers.partner) (caseCode (partnerCase s.peers)) 0
    v3 := pair (addressByte s.peers.selVehicle) (addressByte s.peers.selAim) }

/-- The last seq of a part, 0 where it is ABSENT. -/
def partSeq {α : Type} : Option (PeerPart α) → Nat
  | some p => p.lastSeq.toNat
  | none => 0

/-- The sample age of a part at the uptime of the QUERY's arrival, saturating at 65535; 0 where it is
ABSENT. -/
def partAge {α : Type} (now : Time) : Option (PeerPart α) → Half
  | some p => sat16 (sampleAge now p)
  | none => 0

/-- Freshness / last seq of a part. -/
def partHead {α : Type} (p : Option (PeerPart α)) : Half := pair (caseCode (partCase p)) (partSeq p)

/-- PEER, of an entry. -/
def entryValues (now : Time) (e : PeerEntry) : ReplyValues :=
  { v0 := partHead e.report
    v1 := partAge now e.report
    v2 := partHead e.vehicle
    v3 := partAge now e.vehicle
    v4 := partHead e.aim
    v5 := partAge now e.aim
    v6 := nat16 e.missed
    v7 := pair (match e.role with
                | some c => c.toNat
                | none => 255)
               (match e.report with
                | some p => p.content.state.toNat
                | none => 255) }

/-- PEER, for an address; the own address has no entry (R43). -/
def peerValues (now : Time) (a : Fin 7) (s : State) : ReplyValues :=
  entryValues now
    (if s.ident.address.toNat = a.val then PeerEntry.empty else entryAt s.peers a)

/-- A directory entry byte: bit 7 present, bit 6 VISITED, bits 2..0 the page number. -/
def entryByte (e : DirEntry) : Nat := e.present.toNat * 128 + e.visited.toNat * 64 + e.page.val

/-- Two directory entries, the lower regime in the high byte. -/
def entryPair (g : GainDir) (r : Nat) : Half :=
  pair (entryByte (g.entries[r]?.getD DirEntry.gap)) (entryByte (g.entries[r + 1]?.getD DirEntry.gap))

/-- DIRECTORY MARKS, part p. -/
def directoryValues (part : Nat) (g : GainDir) : ReplyValues :=
  let at' := fun i => entryPair g (16 * part + 2 * i)
  { v0 := at' 0, v1 := at' 1, v2 := at' 2, v3 := at' 3, v4 := at' 4, v5 := at' 5, v6 := at' 6
    v7 := at' 7 }

/-- A page marks value: bit 0 present, bit 1 WITHDRAWN, bit 2 USED, bit 3 STRAINED. -/
def pageMarks (p : Page) : Half :=
  nat16 (bitsValue [p.present, p.withdrawn, p.used, p.strained])

/-- PAGE MARKS. -/
def pageValues (g : GainDir) : ReplyValues :=
  { v0 := pageMarks g.pages[0], v1 := pageMarks g.pages[1], v2 := pageMarks g.pages[2]
    v3 := pageMarks g.pages[3], v4 := pageMarks g.pages[4], v5 := pageMarks g.pages[5]
    v6 := pageMarks g.pages[6], v7 := pageMarks g.pages[7] }

/-- The pending regime of the working context; at BASE that of the vehicle reference unit. -/
def pendingInContext (s : State) : Option (Regime × Time) :=
  if s.ident.role = .base then s.vref.pending else s.gains.pending

/-- WORKING CONTEXT. With no pending regime its bits and its time remaining are 0. DESIGN CHOICE, unsafe:
log entry 29. -/
def contextValues (now : Time) (s : State) : ReplyValues :=
  let e := effectiveGains s.gains
  let p := pendingInContext s
  { v0 := regimeByte s.gains.regime ++ BitVec.ofInt 8 e.rho
    v1 := pair s.gains.blend (pageByte s.gains.page)
    v2 := match p with
          | some (_, due) => remaining now due
          | none => 0
    v3 := field16 e.kp
    v4 := BitVec.ofBool p.isSome
            ++ (match p with
                | some (r, _) => BitVec.ofNat 5 r.val
                | none => 0#5)
            ++ BitVec.ofInt 10 e.kd
    v5 := field16 e.lr
    v6 := BitVec.ofBool (ramping s.gains) ++ 0#2 ++ BitVec.ofInt 13 e.la
    v7 := field16 e.alpha }

/-- BIAS, part 0. -/
def biasValues (x : Sensor) : ReplyValues :=
  { v0 := field16 x.bias.yaw, v1 := field16 x.bias.pitch, v2 := field16 x.bias.roll
    v3 := field16 x.lastValid.yaw, v4 := field16 x.lastValid.pitch, v5 := field16 x.lastValid.roll
    v6 := pair x.misses (bitsValue [x.biasRough, x.biasNone])
    v7 := nat16 (runLength x.run) }

/-- BIAS, part 1. -/
def captureValues (s : State) : ReplyValues :=
  { v0 := nat16 s.sensor.settling
    v1 := nat16 (stillBand s.setup)
    v2 := highHalf s.sensor.count
    v3 := lowHalf s.sensor.count
    v4 := highHalf s.sensor.homeRef
    v5 := lowHalf s.sensor.homeRef
    v6 := nat16 s.sensor.illegal
    v7 := 0 }

/-- SETUP. -/
def setupValues (x : Setup) : ReplyValues :=
  let t := x.items
  { ReplyValues.zero with
    v0 := pair x.phase (errorCode x.lastError)
    v1 := nat16 x.authFailures
    v2 := nat16 x.committed.toNat
    v3 := nat16 (bitsValue [t.g1.isSome, t.g2.isSome, t.g3.isSome, t.g4.isSome, t.g5.isSome,
      t.c1.isSome, t.c2.isSome, false, t.t1.isSome, t.t2.isSome, t.t3.isSome])
    v4 := nat16 (bitsValue (pageNos.flatMap (fun n => [t.pageA[n].isSome, t.pageB[n].isSome])))
    v5 := nat16 (bitsValue (pageNos.map (fun m => t.dir[m].isSome))) }

/-! ### The answer -/

/-- The snapshot of an item and part that the role keeps, none for any other (R185, R186). -/
def snapshot (item : BitVec 5) (part : BitVec 3) (now : Time) (s : State) : Option ReplyValues :=
  let joint := isJoint s.ident.role
  match item.toNat, part.toNat with
  | 1, 0 => some (identityValues now s)
  | 2, 0 => some (nodeValues s)
  | 2, 1 => if joint then some (moveValues s) else none
  | 3, 0 => some (linkValues s.link)
  | 4, 0 => some (summaryValues s)
  | 5, 0 => some (peerValues now 0 s)
  | 6, 0 => some (peerValues now 1 s)
  | 7, 0 => some (peerValues now 2 s)
  | 8, 0 => some (peerValues now 3 s)
  | 9, 0 => some (peerValues now 4 s)
  | 10, 0 => some (peerValues now 5 s)
  | 11, 0 => some (peerValues now 6 s)
  | 12, 0 => if joint then some (directoryValues 0 s.gains) else none
  | 12, 1 => if joint then some (directoryValues 1 s.gains) else none
  | 13, 0 => if joint then some (pageValues s.gains) else none
  | 14, 0 => if joint then some (contextValues now s) else none
  | 15, 0 => if joint then some (biasValues s.sensor) else none
  | 15, 1 => if joint then some (captureValues s) else none
  | 16, 0 => some (setupValues s.setup)
  | _, _ => none

/-- The REPLY to a QUERY (R185, R192): status 0 with the snapshot, or status 1 with all values 0. -/
def replyBody (item : BitVec 5) (part : BitVec 3) (values : Option ReplyValues) (seq : Byte) :
    ReplyPayload :=
  { item := item, status := values.isNone, part := part.extractLsb' 0 2, seq := seq
    values := values.getD ReplyValues.zero }

/-- A QUERY handed to the unit (R185): the snapshot is made and the REPLY slot armed with it. -/
def takeQuery (q : QueryPayload) (now : Time) (s : State) : State :=
  s.setLink (armSlot .reply
    (fun n => { body := .reply (replyBody q.item q.part (snapshot q.item q.part now s) n)
                sampleTime := 0, effectTime := none })
    s.link)

end Sys2Proof.Machine
end

