-- ==== Sys2Proof/Machine/Wire.lean ====
section
/-! DEFINITION. Frames as the line carries them: keys (R22), the check (R23), payload layouts (R190,
R191) and the judgement of an arriving frame (R35), with the encoder beside it. -/

namespace Sys2Proof.Machine

/-- The kind class of a payload, 0..7 (R22). -/
def kindClass : Body → BitVec 3
  | .stop _ => 0
  | .vehicle _ => 1
  | .aim _ => 2
  | .report _ => 3
  | .command _ => 4
  | .setup _ => 5
  | .query _ => 6
  | .reply _ => 7

/-- The payload length fixed for a kind class, in bytes (R23). -/
def classLength (k : BitVec 3) : Nat :=
  match k.toNat with
  | 0 => 2
  | 1 => 26
  | 2 => 10
  | 3 => 18
  | 4 => 4
  | 5 => 12
  | 6 => 2
  | _ => 18

/-- The key of a frame: its kind class times 8 plus its source address (R22). -/
def frameKey (f : Frame) : BitVec 6 := kindClass f.body ++ f.src

/-- The high byte of a 16-bit field, sent first (R190). -/
def hiByte (x : Half) : Byte := x.extractLsb' 8 8

/-- The low byte of a 16-bit field. -/
def loByte (x : Half) : Byte := x.extractLsb' 0 8

/-- A 16-bit field from its two bytes, most-significant first (R190). -/
def joinBytes (h l : Byte) : Half := h ++ l

/-- One bit of a byte as a one-bit vector. -/
def bit1 (b : Bool) : BitVec 1 := BitVec.ofBool b

/-- The payload bytes of a frame in the order they are sent (R191); bits marked 0 are sent as 0. -/
def payloadBytes : Body → List Byte
  | .stop p => [p.cause, p.seq]
  | .vehicle p =>
    [p.seq, bit1 p.valid ++ bit1 p.pendingPresent ++ 0#6,
     hiByte p.age, loByte p.age,
     hiByte p.attYaw, loByte p.attYaw, hiByte p.attPitch, loByte p.attPitch,
     hiByte p.attRoll, loByte p.attRoll,
     hiByte p.rateYaw, loByte p.rateYaw, hiByte p.ratePitch, loByte p.ratePitch,
     hiByte p.rateRoll, loByte p.rateRoll,
     hiByte p.heading, loByte p.heading,
     p.regime, p.pendingRegime,
     hiByte p.lead, loByte p.lead, hiByte p.speed, loByte p.speed,
     hiByte p.roughness, loByte p.roughness]
  | .aim p =>
    [p.seq, p.mode, hiByte p.yaw, loByte p.yaw, hiByte p.pitch, loByte p.pitch,
     hiByte p.roll, loByte p.roll, hiByte p.beta, loByte p.beta]
  | .report p =>
    [p.seq, p.role ++ p.state, hiByte p.age, loByte p.age,
     hiByte p.angle, loByte p.angle, hiByte p.rate, loByte p.rate,
     hiByte p.offset, loByte p.offset, hiByte p.command, loByte p.command,
     hiByte (0#6 ++ p.flags), loByte (0#6 ++ p.flags),
     0#1 ++ p.hears, bit1 p.ramping ++ 0#4 ++ p.page, p.regime, p.cause]
  | .command p => [p.target ++ p.op, p.seq, hiByte p.auth, loByte p.auth]
  | .setup p =>
    [hiByte p.auth, loByte p.auth, p.target, p.item,
     hiByte p.v1, loByte p.v1, hiByte p.v2, loByte p.v2,
     hiByte p.v3, loByte p.v3, hiByte p.v4, loByte p.v4]
  | .query p => [p.target, p.item ++ p.part]
  | .reply p =>
    [p.item ++ bit1 p.status ++ p.part, p.seq,
     hiByte p.values.v0, loByte p.values.v0, hiByte p.values.v1, loByte p.values.v1,
     hiByte p.values.v2, loByte p.values.v2, hiByte p.values.v3, loByte p.values.v3,
     hiByte p.values.v4, loByte p.values.v4, hiByte p.values.v5, loByte p.values.v5,
     hiByte p.values.v6, loByte p.values.v6, hiByte p.values.v7, loByte p.values.v7]

/-- The payload fields of a frame of a kind class, from its bytes (R191). Bits marked 0 are not
examined (R190). None where the number of bytes is not the kind's. -/
def bodyOfBytes (k : BitVec 3) (bytes : List Byte) : Option Body :=
  match k.toNat, bytes with
  | 0, [a0, a1] => some (.stop { cause := a0, seq := a1 })
  | 1, [a0, a1, a2, a3, a4, a5, a6, a7, a8, a9, a10, a11, a12, a13, a14, a15, a16, a17, a18, a19,
        a20, a21, a22, a23, a24, a25] =>
    some (.vehicle {
      seq := a0, valid := a1.getLsbD 7, pendingPresent := a1.getLsbD 6,
      age := joinBytes a2 a3,
      attYaw := joinBytes a4 a5, attPitch := joinBytes a6 a7, attRoll := joinBytes a8 a9,
      rateYaw := joinBytes a10 a11, ratePitch := joinBytes a12 a13, rateRoll := joinBytes a14 a15,
      heading := joinBytes a16 a17, regime := a18, pendingRegime := a19,
      lead := joinBytes a20 a21, speed := joinBytes a22 a23, roughness := joinBytes a24 a25 })
  | 2, [a0, a1, a2, a3, a4, a5, a6, a7, a8, a9] =>
    some (.aim {
      seq := a0, mode := a1, yaw := joinBytes a2 a3, pitch := joinBytes a4 a5,
      roll := joinBytes a6 a7, beta := joinBytes a8 a9 })
  | 3, [a0, a1, a2, a3, a4, a5, a6, a7, a8, a9, a10, a11, a12, a13, a14, a15, a16, a17] =>
    some (.report {
      seq := a0, role := a1.extractLsb' 4 4, state := a1.extractLsb' 0 4,
      age := joinBytes a2 a3, angle := joinBytes a4 a5, rate := joinBytes a6 a7,
      offset := joinBytes a8 a9, command := joinBytes a10 a11,
      flags := (joinBytes a12 a13).extractLsb' 0 10, hears := a14.extractLsb' 0 7,
      ramping := a15.getLsbD 7, page := a15.extractLsb' 0 3, regime := a16, cause := a17 })
  | 4, [a0, a1, a2, a3] =>
    some (.command {
      target := a0.extractLsb' 4 4, op := a0.extractLsb' 0 4, seq := a1, auth := joinBytes a2 a3 })
  | 5, [a0, a1, a2, a3, a4, a5, a6, a7, a8, a9, a10, a11] =>
    some (.setup {
      auth := joinBytes a0 a1, target := a2, item := a3, v1 := joinBytes a4 a5,
      v2 := joinBytes a6 a7, v3 := joinBytes a8 a9, v4 := joinBytes a10 a11 })
  | 6, [a0, a1] =>
    some (.query { target := a0, item := a1.extractLsb' 3 5, part := a1.extractLsb' 0 3 })
  | 7, [a0, a1, a2, a3, a4, a5, a6, a7, a8, a9, a10, a11, a12, a13, a14, a15, a16, a17] =>
    some (.reply {
      item := a0.extractLsb' 3 5, status := a0.getLsbD 2, part := a0.extractLsb' 0 2, seq := a1,
      values := {
        v0 := joinBytes a2 a3, v1 := joinBytes a4 a5, v2 := joinBytes a6 a7,
        v3 := joinBytes a8 a9, v4 := joinBytes a10 a11, v5 := joinBytes a12 a13,
        v6 := joinBytes a14 a15, v7 := joinBytes a16 a17 } })
  | _, _ => none

/-- The low n bits of a number, most-significant bit first: the order of the line (R23). -/
def bitsMsb : Nat → Nat → List Bool
  | 0, _ => []
  | n + 1, x => x.testBit n :: bitsMsb n x

/-- The bits the check runs over: the key, the length and the payload, in the order sent (R23). -/
def checkedBits (key : BitVec 6) (length : BitVec 5) (payload : List Byte) : List Bool :=
  bitsMsb 6 key.toNat ++ bitsMsb 5 length.toNat ++ payload.flatMap (fun b => bitsMsb 8 b.toNat)

/-- One bit through the CRC-16 register, generator x^16 + x^12 + x^5 + 1, with no reflection (R23). -/
def crcStep (r : Half) (b : Bool) : Half :=
  if r.msb == b then r <<< 1 else (r <<< 1) ^^^ 0x1021#16

/-- The check over a run of bits: the register preset to all ones, no final inversion (R23). -/
def crc16 (bits : List Bool) : Half := bits.foldl crcStep 0xFFFF#16

/-- A frame as a correct sender puts it on the line (R22, R23). -/
def encodeFrame (f : Frame) : RawFrame :=
  let payload := payloadBytes f.body
  let length := BitVec.ofNat 5 payload.length
  { key := frameKey f
    length := length
    payload := payload
    check := crc16 (checkedBits (frameKey f) length payload)
    endOk := true }

/-- The bits of a frame between its start and end conditions, in the order sent (R23). -/
def rawBits (r : RawFrame) : List Bool :=
  checkedBits r.key r.length r.payload ++ bitsMsb 16 r.check.toNat

/-- The line time of a frame of n payload bytes, in bit times of 0.25 µs (R23). -/
def bitTimes (n : Nat) : Nat := 30 + 8 * n

/-- The judgement of an arriving frame at its end condition (R35): none where the check, the length
or the end test fails, otherwise the valid frame. -/
def judgeFrame (r : RawFrame) : Option Frame :=
  let k : BitVec 3 := r.key.extractLsb' 3 3
  let src : Addr := r.key.extractLsb' 0 3
  if r.endOk && r.length.toNat == classLength k && r.payload.length == r.length.toNat
      && r.check == crc16 (checkedBits r.key r.length r.payload) then
    (bodyOfBytes k r.payload).map (fun b => { src := src, body := b })
  else none

end Sys2Proof.Machine
end

