-- ==== Sys2Proof/Machine/Receive.lean ====
section
/-! DEFINITION. The arrival path: reception with its counts (R34, R35, R39), the address-clash test
(R38), the receive filter (R37), and what the node controller and the peer table do with what it
hands on (R13, R17, R18, R44, R58, R93). -/

namespace Sys2Proof.Machine

/-! ### Commands (R13) -/

/-- The states of a joint role's working life in which CLEAR_MARKS is taken (R13, R155). -/
def takesClearMarks : NodeState → Bool
  | .settling | .idle | .homing | .parked | .engaged | .hold | .parking | .fault => true
  | _ => false

/-- HOME (R13, R82). -/
def takeHome (s : State) : State :=
  if isJoint s.ident.role && (s.node.state == .idle || s.node.state == .parked) then enterHoming s
  else countIgnored s

/-- The engage latch given a value (R12). -/
def setLatch (x : Bool) (s : State) : State := s.setNode { s.node with latch := x }

/-- ENGAGE (R13, R157). -/
def takeEngage (s : State) : State :=
  match s.node.state with
  | .parked => engageOrHold s
  | .homing | .parking => setLatch true s
  | _ => countIgnored s

/-- PARK (R13, R91). -/
def takePark (s : State) : State :=
  match s.node.state with
  | .engaged | .hold => enterParking s
  | .homing | .parking => setLatch false s
  | _ => countIgnored s

/-- Row 1 of the CLEAR table (R17): a clash is in the cause set. -/
def clashed (s : State) : Bool :=
  hasCause s.node.record.causes .roleClash || hasCause s.node.record.causes .addressClash

/-- Row 2 of the CLEAR table (R17): the sensor is still invalid or DRIVE_FAULT still asserted. -/
def stillFaulty (s : State) : Bool :=
  (hasCause s.node.record.causes .sensor && s.sensor.misses != 0)
    || (hasCause s.node.record.causes .drive && s.drive.driveFault)

/-- The fault record emptied and the homed flag set, at an exit of CLEAR (R18). -/
def emptyRecord (homed : Bool) (s : State) : State :=
  s.setNode { s.node with record := FaultRecord.empty, homed := homed }

/-- CLEAR taken in FAULT: the table of R17 with the exits of R18. -/
def clearFault (s : State) : State :=
  let causes := s.node.record.causes
  if clashed s || stillFaulty s then countIgnored s
  else if hasCause causes .sensor || s.node.record.enteredFrom == some .settling then
    enterSettling (emptyRecord (s.node.homed && !hasCause causes .encoder) s)
  else if hasCause causes .encoder || hasCause causes .homeFail || !s.node.homed then
    moveTo .idle (emptyRecord false s)
  else if hasCause causes .endStop || hasCause causes .moveTimeout then
    enterParking (emptyRecord true s)
  else moveTo .parked (emptyRecord true s)

/-- CLEAR (R13, R17). -/
def takeClear (s : State) : State :=
  if s.node.state = .fault then clearFault s else countIgnored s

/-- CLEAR_MARKS (R13, R155). -/
def takeClearMarks (s : State) : State :=
  if isJoint s.ident.role && takesClearMarks s.node.state then s.setGains (clearMarks s.gains)
  else countIgnored s

/-- The states in which STANDBY is judged by its auth code (R13, R187). -/
def takesStandby (r : Role) (st : NodeState) : Bool :=
  (isJoint r && (st == .idle || st == .parked)) || (r == .console && st == .live)

/-- STANDBY (R13, R187). -/
def takeStandby (auth : Half) (s : State) : State :=
  if takesStandby s.ident.role s.node.state then
    if auth = s.ident.auth then enterStandby s else countAuthFailure s
  else countIgnored s

/-- A COMMAND handed to the node controller, by its op (R13, R191). -/
def takeCommand (op : BitVec 4) (auth : Half) (s : State) : State :=
  match op.toNat with
  | 1 => takeHome s
  | 2 => takeEngage s
  | 3 => takePark s
  | 4 => takeClear s
  | 5 => takeClearMarks s
  | 6 => takeStandby auth s
  | _ => countIgnored s

/-! ### The peer table's arrivals -/

/-- A REPORT claims the role of the node (R58). -/
def claimsOwnRole (s : State) (p : ReportPayload) : Bool :=
  isJoint s.ident.role && p.role.toNat == roleCode s.ident.role

/-- A REPORT filed, the hold causes judged, then the role clash tested (R44, R58, R159); the order of the
last two is open. DESIGN CHOICE, unsafe: log entry 24. -/
def takeReport (a : Fin 7) (p : ReportPayload) (capture now : Time) (s : State) : State :=
  let t := judgeHold (s.setPeers (fileReport s.ident.role s.peers a p capture now))
  if claimsOwnRole s p && decide (a.val < s.ident.address.toNat) then raise .roleClash t else t

/-- The freshness a VEHICLE filed from an address was just given (R47). -/
def vehicleFreshness (p : Peers) (a : Fin 7) : Fresh :=
  match (entryAt p a).vehicle with
  | some q => q.fresh
  | none => .lost

/-- A VEHICLE filed and, at a joint that is not BASE, handed on to the gain directory (R44, R53,
R148). -/
def takeVehicle (a : Fin 7) (p : VehiclePayload) (capture now : Time) (s : State) : State :=
  let t := s.setPeers (fileVehicle s.peers a p capture now)
  if isJoint s.ident.role && s.ident.role != .base then
    directoryTakes p capture (vehicleFreshness t.peers a) t
  else t

/-- An AIM filed (R44). -/
def takeAimFrame (a : Fin 7) (p : AimPayload) (capture now : Time) (s : State) : State :=
  s.setPeers (fileAim s.peers a p capture now)

/-! ### The receive filter (R37) -/

/-- A COMMAND's target names the node: its own address, or 15 (R37). -/
def commandForNode (target : BitVec 4) (s : State) : Bool :=
  target.toNat == s.ident.address.toNat || target == 15

/-- The target of a SETUP or QUERY is the node's own address (R37). -/
def frameForNode (target : Byte) (s : State) : Bool := target.toNat == s.ident.address.toNat

/-- The receive filter: a valid frame that is not an address clash is handed on or ignored (R37). -/
def filterFrame (f : Frame) (capture now : Time) (s : State) : State :=
  match f.body with
  | .stop _ => if actsOnStop s.node.state then actOnStop s else s
  | .vehicle p =>
    match stationOf f.src with
    | some a => takeVehicle a p capture now s
    | none => s
  | .aim p =>
    match stationOf f.src with
    | some a => takeAimFrame a p capture now s
    | none => s
  | .report p =>
    match stationOf f.src with
    | some a => takeReport a p capture now s
    | none => s
  | .command p => if commandForNode p.target s then takeCommand p.op p.auth s else s
  | .setup p => if frameForNode p.target s then takeSetup p s else s
  | .query q => if frameForNode q.target s then takeQuery q now s else s
  | .reply _ => s

/-! ### Reception (R35, R39) -/

/-- Whether a slot is on the line. -/
def isInFlight : Slot → Bool
  | .inFlight _ _ _ => true
  | .empty | .armed _ _ => false

/-- Whether one of the node's own frames is on the line. -/
def ownFrameOnLine (l : Link) : Bool :=
  isInFlight l.slots.stop || isInFlight l.slots.vehicle || isInFlight l.slots.aim
    || isInFlight l.slots.report || isInFlight l.slots.command || isInFlight l.slots.reply

/-- Whether the link controller receives (R39): not in SELFCHECK or STANDBY, not before the line has
been seen at rest (R188), and not while a frame of its own is on the line (R36). DEDUCED, unsafe: log entry 11. -/
def receives (s : State) : Bool :=
  s.node.state != .selfcheck && s.node.state != .standby && s.link.line != .unready
    && !ownFrameOnLine s.link

/-- The link controller's counts at a valid reception (R34, R35, R41); the 64th in MUTE restores
CLEAN and leaves the reception-run count, not kept in CLEAN (R42), at 0. DESIGN CHOICE, unsafe: log entry
35. -/
def countValid (l : Link) : Link :=
  let t := { l with rxOk := l.rxOk + 1, activity := .idle, line := .idle }
  if l.health = .mute then
    if l.receptionRun + 1 = 64 then { t with health := .clean, errors := 0, receptionRun := 0 }
    else { t with receptionRun := l.receptionRun + 1 }
  else t

/-- The link controller's counts at a malformed frame (R34, R35, R41). -/
def countMalformed (l : Link) : Link :=
  { l with
    rxError := l.rxError + 1
    activity := .idle
    line := .idle
    receptionRun := if l.health = .mute then 0 else l.receptionRun }

/-- A valid frame past its counts: the address-clash test, then the filter (R37, R38). In UNASSIGNED
nothing is handed on (R7). -/
def passOn (f : Frame) (capture now : Time) (s : State) : State :=
  if s.node.state = .unassigned then s
  else if f.src = s.ident.address then raise .addressClash s
  else filterFrame f capture now s

/-- A valid frame at its end condition (R35): counted, the change of health judged (R159), passed
on. -/
def receive (f : Frame) (capture now : Time) (s : State) : State :=
  let t := s.setUptime now
  if receives t then passOn f capture now (judgeHold (t.setLink (countValid t.link))) else t

/-- A frame off the line at its end condition (R35): discarded if it is malformed. -/
def receiveRaw (raw : RawFrame) (capture now : Time) (s : State) : State :=
  match judgeFrame raw with
  | some f => receive f capture now s
  | none =>
    let t := s.setUptime now
    if receives t then t.setLink (countMalformed t.link) else t

end Sys2Proof.Machine
end

