-- ==== Sys2Proof/Machine/Link.lean ====
section
/-! DEFINITION. The sending side of the link controller (chapter 2): readiness, contention, stamping,
the end of a transmission and link health. -/

namespace Sys2Proof.Machine

/-- The states in which the link controller contends and sends (R39). -/
def contends : NodeState → Bool
  | .setup | .settling | .idle | .homing | .parked | .engaged | .hold | .parking | .fault | .live =>
    true
  | _ => false

/-- The slots in the order of their keys (R27). -/
def slotOrder : List SlotKind := [.stop, .vehicle, .aim, .report, .command, .reply]

/-- Whether a slot is ARMED. -/
def isArmed : Slot → Bool
  | .armed _ _ => true
  | .empty | .inFlight _ _ _ => false

/-- The ARMED slot with the lowest key (R27). -/
def lowestArmed (s : Slots) : Option SlotKind := slotOrder.find? (fun k => isArmed (slotAt s k))

/-- The slot whose frame is on the line. -/
def slotOnLine (s : Slots) : Option SlotKind := slotOrder.find? (fun k => isInFlight (slotAt s k))

/-! ### Readiness and contention (R27, R28) -/

/-- The line is seen at rest for 32 bit times (R27). -/
def lineAtRest (s : State) : State :=
  if s.node.state = .selfcheck ∨ s.node.state = .standby then s
  else if s.link.line = .unready then s.setLink { s.link with line := .idle }
  else s

/-- An ARMED slot's frame goes onto the line. -/
def launched : Slot → Slot
  | .armed f n => .inFlight f n none
  | x => x

/-- The node contends with its lowest-key ARMED slot, where the line is idle, health is not MUTE and a
slot is ARMED (R27); otherwise nothing. -/
def contendNow (s : State) : State :=
  if contends s.node.state && s.link.line == .idle && s.link.health != .mute
      && !ownFrameOnLine s.link then
    match lowestArmed s.link.slots with
    | some k =>
      s.setLink { s.link with
        slots := putSlot s.link.slots k (launched (slotAt s.link.slots k))
        activity := .contending
        line := .busy }
    | none => s
  else s

/-- A slot after a lost contention, and whether its frame was superseded (R27). -/
def afterLoss : Slot → Slot × Bool
  | .inFlight f n none => (.armed f n, false)
  | .inFlight _ _ (some g) => (.armed g 0, true)
  | x => (x, false)

/-- A start condition seen on the idle line (R27, R35, R40): a node with an ARMED slot joins the
contention, any other that receives takes the frame in (DEDUCED, unsafe: log entry 18). The line is busy
from then on, so a slot armed between the start condition and the first key bit waits for the next
idle. DESIGN CHOICE, unsafe: log entry 32. A node that joins shows 01 from the start condition on, although
R40 begins it at the first key bit, which no row marks. DESIGN CHOICE, unsafe: log entry 36. On a line not yet seen at rest after a reset or a wake a start
condition changes nothing: the frame is not received (R39, R188), and the pins stay at 00 although R40 gives
11 for a start condition seen while not contending. DESIGN CHOICE, unsafe: log entry 33. -/
def startSeen (s : State) : State :=
  if s.node.state = .selfcheck ∨ s.node.state = .standby ∨ s.link.line ≠ .idle
      ∨ ownFrameOnLine s.link = true then s
  else if contends s.node.state && s.link.health != .mute && (lowestArmed s.link.slots).isSome then
    contendNow s
  else s.setLink { s.link with activity := .receiving, line := .busy }

/-- Contention lost: the node receives the rest of the frame (R27, R40). -/
def loseContention (s : State) : State :=
  match s.link.activity, slotOnLine s.link.slots with
  | .contending, some k =>
    let r := afterLoss (slotAt s.link.slots k)
    s.setLink { s.link with
      slots := putSlot s.link.slots k r.1
      superseded := countIf r.2 s.link.superseded
      activity := .receiving }
  | _, _ => s

/-- The lead remaining of a VEHICLE at its win (R28). -/
def stampedLead (now : Time) (pendingPresent : Bool) (effect : Option Time) : Half :=
  match pendingPresent, effect with
  | true, some due => remaining now due
  | _, _ => 0

/-- A payload with its stamped fields completed at the win capture (R28). -/
def stampBody (now : Time) (f : TxFrame) : Body :=
  match f.body with
  | .report p => .report { p with age := sat16 (elapsed now f.sampleTime) }
  | .vehicle p =>
    .vehicle { p with age := sat16 (elapsed now f.sampleTime)
                      lead := stampedLead now p.pendingPresent f.effectTime }
  | b => b

/-- The frame on the line stamped afresh (R28). -/
def stampSlot (now : Time) : Slot → Slot
  | .inFlight f n succ => .inFlight { f with body := stampBody now f } n succ
  | x => x

/-- Contention won at the uptime `now` (R28, R40). -/
def winContention (now : Time) (s : State) : State :=
  match s.link.activity, slotOnLine s.link.slots with
  | .contending, some k =>
    s.setLink { s.link with
      slots := putSlot s.link.slots k (stampSlot now (slotAt s.link.slots k))
      activity := .sending }
  | _, _ => s

/-! ### What the node puts on the line (R22, R23, R28) -/

/-- The frame of a slot's content: the node's own address as its source (R22). -/
def ownFrame (s : State) (b : Body) : Frame := { src := s.ident.address, body := b }

/-- The class each slot's kind sends with (R22). -/
def slotClass : SlotKind → BitVec 3
  | .stop => 0
  | .vehicle => 1
  | .aim => 2
  | .report => 3
  | .command => 4
  | .reply => 7

/-- The key a slot contends with (R22, R27): its class, then the node's own address. -/
def slotKey (s : State) (k : SlotKind) : BitVec 6 := slotClass k ++ s.ident.address

/-- The frame the node puts on the line from its win on, with its key, length and check (R23, R28). -/
def sentFrame (s : State) : Option RawFrame :=
  match s.link.activity, slotOnLine s.link.slots with
  | .sending, some k =>
    match slotAt s.link.slots k with
    | .inFlight f _ _ => some (encodeFrame (ownFrame s f.body))
    | .empty | .armed _ _ => none
  | _, _ => none

/-! ### The end of a transmission (R29 to R33) -/

/-- A slot after a success (R29). -/
def afterSuccess : Slot → Slot
  | .inFlight _ _ (some g) => .armed g 0
  | .inFlight _ _ none => .empty
  | x => x

/-- The health counts at a success (R29, R32). The eighth in NOISY leaves the success-run count, no longer
kept from then on (R32), at 0. DESIGN CHOICE, unsafe: log entry 35. -/
def healthAfterSuccess (l : Link) : Link :=
  if l.health = .noisy then
    if l.successRun + 1 = 8 then { l with errors := 0, health := .clean, successRun := 0 }
    else { l with errors := 0, successRun := l.successRun + 1 }
  else { l with errors := 0 }

/-- A transmission succeeds (R29, R32, R40). -/
def sendSuccess (s : State) : State :=
  match s.link.activity, slotOnLine s.link.slots with
  | .sending, some k =>
    let l := healthAfterSuccess s.link
    judgeHold (s.setLink { l with
      slots := putSlot l.slots k (afterSuccess (slotAt l.slots k))
      txOk := l.txOk + 1
      activity := .idle
      line := .idle })
  | _, _ => s

/-- The health counts at a transmit error (R31 to R33): one step of health at most. -/
def healthAfterError (l : Link) : Link :=
  let e := satAdd 255 l.errors 1
  match l.health with
  | .clean =>
    if 4 ≤ e then { l with errors := e, health := .noisy, successRun := 0 }
    else { l with errors := e }
  | .noisy =>
    if 16 ≤ e then { l with errors := e, health := .mute, successRun := 0, receptionRun := 0 }
    else { l with errors := e, successRun := 0 }
  | .mute => { l with errors := e }

/-- The attempt limit of a health (R31). -/
def attemptLimit : Health → Nat
  | .clean => 3
  | .noisy | .mute => 1

/-- What a transmit error does to a slot (R31): the slot, whether its frame was superseded, whether it
was dropped. -/
def afterError (limit : Nat) : Slot → Slot × Bool × Bool
  | .inFlight _ _ (some g) => (.armed g 0, true, false)
  | .inFlight f n none =>
    if limit ≤ n + 1 then (.empty, false, true) else (.armed f (n + 1), false, false)
  | x => (x, false, false)

/-- A transmission ends in a transmit error (R30 to R33, R40); MUTE is judged as a hold cause in the
same event (R159, R160). -/
def sendError (s : State) : State :=
  match slotOnLine s.link.slots with
  | some k =>
    let l := healthAfterError s.link
    let r := afterError (attemptLimit l.health) (slotAt l.slots k)
    judgeHold (s.setLink { l with
      slots := putSlot l.slots k r.1
      txError := l.txError + 1
      superseded := countIf r.2.1 l.superseded
      dropped := countIf r.2.2 l.dropped
      activity := .receiving })
  | none => s

/-! ### The meanings of the rows -/

/-- LINE_REST_SEEN (R27). -/
def execLineRestSeen (s : State) : Outcome := .next (lineAtRest s)

/-- CONTEND (R27). -/
def execContend (s : State) : Outcome := .next (contendNow s)

/-- CONTENTION_LOST (R27). -/
def execContentionLost (s : State) : Outcome := .next (loseContention s)

/-- CONTENTION_WIN (R28). -/
def execContentionWin (now : Time) (s : State) : Outcome :=
  .next (winContention now (s.setUptime now))

/-- TRANSMISSION_SUCCESS (R29). -/
def execTransmissionSuccess (s : State) : Outcome := .next (sendSuccess s)

/-- TRANSMIT_ERROR (R31). -/
def execTransmitError (s : State) : Outcome := .next (sendError s)

end Sys2Proof.Machine
end

