-- ==== Sys2Proof/Machine/Console.lean ====
section
/-! DEFINITION. The console unit (chapter 10): the handwheels, the aim, the AIM frame and the
buttons. -/

namespace Sys2Proof.Machine

/-- The counter after a change at a handwheel encoder (R171): up when line A leads line B, down when
B leads A, as it was when both lines change. -/
def wheelAfter (q : QuadLevels) (c : QuadChange) (n : Half) : Half :=
  match c with
  | .one .a => if q.a == q.b then n + 1 else n - 1
  | .one .b => if q.a != q.b then n + 1 else n - 1
  | .both => n

/-- The line levels after a change at a handwheel encoder. -/
def wheelLines (q : QuadLevels) : QuadChange → QuadLevels
  | .one .a => { q with a := !q.a }
  | .one .b => { q with b := !q.b }
  | .both => { a := !q.a, b := !q.b }

/-- A handwheel line change at a CONSOLE (R171). In STANDBY the decoders have no power and only the
lines move. -/
def turnWheel (w : Wheel) (c : QuadChange) (s : State) : State :=
  if s.ident.role = .console then
    let powered := s.node.state != .standby
    let k := s.console.counters
    match w with
    | .yaw =>
      { s with
        console := { s.console with
          counters := if powered then { k with yaw := wheelAfter s.pins.wheelYaw c k.yaw } else k }
        pins := { s.pins with wheelYaw := wheelLines s.pins.wheelYaw c } }
    | .pitch =>
      { s with
        console := { s.console with
          counters :=
            if powered then { k with pitch := wheelAfter s.pins.wheelPitch c k.pitch } else k }
        pins := { s.pins with wheelPitch := wheelLines s.pins.wheelPitch c } }
    | .roll =>
      { s with
        console := { s.console with
          counters := if powered then { k with roll := wheelAfter s.pins.wheelRoll c k.roll } else k }
        pins := { s.pins with wheelRoll := wheelLines s.pins.wheelRoll c } }
  else s

/-- The step count of a wheel (R171): the signed difference modulo 65536, saturated to ±127. -/
def stepCount (counter last : Half) : Int := clamp (-127) 127 (counter - last).toInt

/-- The step of the aim on an axis (R172). -/
def aimStep (steps scale : Int) : Int := truncDiv (steps * scale) 16

/-- The aim after a LIVE sample's step (R172). -/
def steppedAim (scales : Axes) (limits : ItemC2) (c : Console) : Axes :=
  let p : Int := (limits.pitchLimit : Int)
  let r : Int := (limits.rollLimit : Int)
  { yaw := wrapAngle (c.aim.yaw + aimStep (stepCount c.counters.yaw c.last.yaw) scales.yaw)
    pitch := clamp (-p) p (c.aim.pitch + aimStep (stepCount c.counters.pitch c.last.pitch) scales.pitch)
    roll := clamp (-r) r (c.aim.roll + aimStep (stepCount c.counters.roll c.last.roll) scales.roll) }

/-- The console's AIM payload (R174). -/
def aimBody (c : Console) (beta : Nat) (seq : Byte) : AimPayload :=
  { seq := seq, mode := BitVec.ofNat 8 (modeCode c.mode), yaw := field16 c.aim.yaw
    pitch := field16 c.aim.pitch, roll := field16 c.aim.roll, beta := nat16 beta }

/-- A LIVE sample (R171 to R174): the aim stepped, the mode read from the switch, AIM armed. -/
def liveSample (modeHigh : Bool) (t : Time) (s : State) : State :=
  let c := { s.console with
    aim := steppedAim (consoleScales s.setup) (consoleLimits s.setup) s.console
    last := s.console.counters
    mode := if modeHigh then .rigid else .stab }
  { s with
    console := c
    link := armSlot .aim
      (fun q => { body := .aim (aimBody c (consoleLimits s.setup).beta q), sampleTime := t
                  effectTime := none })
      s.link }

/-- A CONSOLE's sample at its sample timer's expiry (R60, R59, R170). -/
def consoleSample (modeHigh : Bool) (t : Time) (s : State) : State :=
  match s.node.state with
  | .setup | .fault => s.setPeers (evaluatePeers s.ident.role t s.peers)
  | .live => liveSample modeHigh t (s.setPeers (evaluatePeers s.ident.role t s.peers))
  | _ => s

/-- The COMMAND slot armed with a COMMAND to target 15, auth code 0 (R175). -/
def armCommand (op : BitVec 4) (l : Link) : Link :=
  armSlot .command
    (fun q => { body := .command { target := 15, op := op, seq := q, auth := 0 }, sampleTime := 0
                effectTime := none }) l

/-- A press of ENGAGE (R175). Outside LIVE only the input's level changes. -/
def pressEngage (s : State) : State :=
  let t := s.setPins { s.pins with engagePressed := true }
  if s.ident.role = .console ∧ s.node.state = .live ∧ s.console.engageLevel = false then
    { t with console := { s.console with engageLevel := true }, link := armCommand 2 s.link }
  else t

/-- A press of PARK (R175), with the aim zeroed at the same event (R176). -/
def pressPark (s : State) : State :=
  let t := s.setPins { s.pins with parkPressed := true }
  if s.ident.role = .console ∧ s.node.state = .live ∧ s.console.parkLevel = false then
    { t with console := zeroAim { s.console with parkLevel := true }, link := armCommand 3 s.link }
  else t

/-- A button's release updates its level (R175). -/
def releaseButton (b : Button) (s : State) : State :=
  let live := s.ident.role == .console && s.node.state == .live
  match b with
  | .engage =>
    let t := s.setPins { s.pins with engagePressed := false }
    if live then t.setConsole { t.console with engageLevel := false } else t
  | .park =>
    let t := s.setPins { s.pins with parkPressed := false }
    if live then t.setConsole { t.console with parkLevel := false } else t

end Sys2Proof.Machine
end

