-- ==== Sys2Proof/Machine/Sample.lean ====
section
/-! DEFINITION. The sample path ("How the blocks work together"): the sample timer's expiry (R60), the
rate sensor's reply (R61, R62), the delivery of a sample to the blocks, and self-check's use of the
timer and the sensor line (R5). -/

namespace Sys2Proof.Machine

/-! ### Delivery -/

/-- The peer table's evaluation for a sample with sample time t, with the judgement of the hold causes
that follows it (R48, R159). -/
def evaluateFor (t : Time) (s : State) : State :=
  judgeHold (s.setPeers (evaluatePeers s.ident.role t s.peers))

/-- A joint that is not BASE writes its ring entry as the sample is delivered, with roughness term 0
(R73), and tests its local pending before the correction unit takes the sample up (R150). -/
def peerJointSample (st : NodeState) (t : Time) (s : State) : State :=
  testLocalPending t
    (if writesRing st then s.setSensor { s.sensor with ring := joinRing 0 s.sensor.ring } else s)

/-- The state in which the correction unit takes a sample up (R114): the vehicle reference unit's work
done at BASE (R95), the ring entry and the local pending at the other joints. -/
def upstream (st : NodeState) (smp : Sample) (s : State) : State :=
  if s.ident.role = .base then vehicleSample st smp s else peerJointSample st smp.time s

/-- The blocks downstream of the peer table take a sample up, in the state st it is delivered in (R60,
R95, R114, R162). -/
def handOn (st : NodeState) (smp : Sample) (s : State) : State :=
  holdExitStep st (correctionSample st smp (upstream st smp s))

/-- The state in which the blocks take a sample: the angle remembered for the next rate (R72), the peer
table evaluated and the hold causes judged (R48, R159). -/
def evaluated (q : Request) (smp : Sample) (s : State) : State :=
  evaluateFor q.sampleTime (rememberAngle smp.angle s)

/-- The sample of a request is delivered along the sample path at a joint role (R60, R62). -/
def deliver (q : Request) (valid : Bool) (s : State) : State :=
  let smp := formSample q valid s
  let s1 := evaluated q smp s
  handOn s1.node.state smp s1

/-! ### Self-check's timer and sensor tests -/

/-- A sample-timer expiry in SELFCHECK serves test 3: the first hundred are counted (R5, R60). -/
def countExpiry (now : Time) (c : SelfCheck) : SelfCheck :=
  if c.status = .running ∧ c.test = 3 ∧ c.expiries < 100 then
    { c with expiries := c.expiries + 1
             firstExpiry := if c.expiries = 0 then now else c.firstExpiry
             lastExpiry := now }
  else c

/-- Windows of 1,000 µs that have passed since the latest request of test 4 with no reply (R5). -/
def windowsPassed (now : Time) (c : SelfCheck) : Nat := (elapsed now c.requestTime - 1) / 1000

/-- Whether test 4 has used its three requests without a valid reading (R5): a fourth would be due. -/
def requestsUsed (now : Time) (c : SelfCheck) : Bool := decide (3 < c.requests + windowsPassed now c)

/-- A reply of the rate sensor in SELFCHECK serves test 4 (R5): a valid reading within 1,000 µs of a
request passes it; after an invalid one the next request is made. DEDUCED, unsafe: log entry 19. -/
def checkReply (valid : Bool) (now : Time) (c : SelfCheck) : SelfCheck :=
  if c.status = .running ∧ c.test = 4 ∧ c.readingSeen = false ∧ requestsUsed now c = false then
    if valid then { c with readingSeen := true }
    else { c with requests := c.requests + windowsPassed now c + 1, requestTime := now }
  else c

/-! ### The two events -/

/-- The states in which a joint role requests a reading at each expiry and delivers samples (R60). -/
def samples : NodeState → Bool
  | .setup | .settling | .idle | .homing | .parked | .engaged | .hold | .parking | .fault => true
  | _ => false

/-- A request still in flight at the next expiry is abandoned and its sample delivered, reading valid
no (R62). -/
def abandonRequest (s : State) : State :=
  match s.sensor.inFlight with
  | some q => deliver q false (missReading s)
  | none => s

/-- A new request, recorded as in flight with the expiry's sample time and latched count (R60, R61). -/
def sendRequest (now : Time) (count : BitVec 32) (s : State) : State :=
  s.setSensor { s.sensor with inFlight := some { sampleTime := now, count := count } }

/-- The sample timer's work at an expiry, the uptime already at the expiry (R60, R62). -/
def expiryWork (modeHigh : Bool) (now : Time) (s : State) : State :=
  if s.sensor.timer = none then s
  else if s.node.state = .selfcheck then s.setCheck (countExpiry now s.check)
  else if s.ident.role = .console then consoleSample modeHigh now s
  else if samples s.node.state then sendRequest now s.sensor.count (abandonRequest s)
  else s

/-- The sample timer expires (R60). -/
def timerExpires (modeHigh : Bool) (now : Time) (s : State) : State :=
  expiryWork modeHigh now (s.setUptime now)

/-- The front end's work at a completed reply, the uptime already at its end (R61, R62); the rest of an
abandoned reply is discarded. -/
def replyWork (r : SensorReply) (now : Time) (s : State) : State :=
  if r.abandoned then s
  else if s.node.state = .selfcheck then s.setCheck (checkReply (replyValid r) now s.check)
  else
    match s.sensor.inFlight with
    | some q =>
      if replyValid r then deliver q true (s.setSensor (takeReading r s.sensor))
      else deliver q false (missReading s)
    | none => s

/-- The rate sensor's reply completes (R61, R62). -/
def replyArrives (r : SensorReply) (now : Time) (s : State) : State :=
  replyWork r now (s.setUptime now)

/-- The event that delivers a sample: a completed reply or an expiry (R62). -/
def runTrigger (tr : SampleTrigger) (now : Time) (s : State) : State :=
  match tr with
  | .reply r => replyArrives r now s
  | .expiry modeHigh => timerExpires modeHigh now s

/-! ### The meanings of the two rows -/

/-- SAMPLE_TIMER_EXPIRY (R60). -/
def execSampleTimerExpiry (modeHigh : Bool) (now : Time) (s : State) : Outcome :=
  .next (timerExpires modeHigh now s)

/-- RATE_SENSOR_REPLY (R62). -/
def execRateSensorReply (r : SensorReply) (now : Time) (s : State) : Outcome :=
  .next (replyArrives r now s)

end Sys2Proof.Machine
end

