-- ==== Sys2Proof/Machine/Node.lean ====
section
/-! DEFINITION. The node controller's own events: full reset (R3, R4), self-check (R5, R6), the LED
phases (R10), the STOP input (R92), the wake events (R188), and the rows of the remaining pins. -/

namespace Sys2Proof.Machine

/-! ### Full reset -/

/-- The first node state (R4). -/
def firstState (i : Identity) : NodeState :=
  if i.testHigh then .selfcheck else if !i.valid then .unassigned else .setup

/-- The node controller after a full reset (R4). -/
def NodeCtl.reset (st : NodeState) : NodeCtl :=
  { state := st, homed := false, latch := false, record := FaultRecord.empty, ignored := 0
    holdExit := 0 }

/-- A full reset with the four fuse bytes and the TEST level read (R3, R4, R42, R59, R75, R94, R113,
R134, R156, R178, R189). The input levels stay as they stand. DESIGN CHOICE, unsafe: log entries 2, 3, 7. -/
def resetAll (b0 b1 b2 b3 : Byte) (testHigh : Bool) (s : State) : State :=
  let ident := readIdentity b0 b1 b2 b3 testHigh
  { uptime := 0
    ident := ident
    node := NodeCtl.reset (firstState ident)
    check := SelfCheck.start
    link := Link.reset
    peers := Peers.reset
    sensor := Sensor.reset 0
    drive := Drive.reset s.drive.minTripped s.drive.maxTripped s.drive.driveFault
    vref := VehicleRef.reset
    corr := Correction.reset
    gains := GainDir.reset
    console := Console.reset (startedWheels s.choices)
    setup := Setup.reset
    pins := s.pins
    ledPhase := 0
    choices := s.choices + 3
    pending := s.pending }

/-! ### Self-check -/

/-- The number of sample-timer expiries test 3 runs over (R5). -/
def testThreeSpan (c : SelfCheck) : Nat := elapsed c.lastExpiry c.firstExpiry

/-- Whether the drive-line loopback reads back its four values as sent (R5). -/
def loopbackOk (f : SelfTestFindings) : Bool :=
  f.drivePlusOne == 1 && f.driveMinusOne == -1 && f.drivePlusMax == 32767
    && f.driveMinusMax == -32767

/-- The result of the test that runs: none while it has not come to its end (R5). -/
def testResult (found : SelfTestFindings) (now : Time) (i : Identity) (c : SelfCheck) : Option Bool :=
  match c.test with
  | 1 => some i.valid
  | 2 => some found.ramOk
  | 3 =>
    if c.expiries = 100 then
      some (decide (98010 ≤ testThreeSpan c ∧ testThreeSpan c ≤ 99990))
    else none
  | 4 => if c.readingSeen then some true else if requestsUsed now c then some false else none
  | 5 => some (loopbackOk found)
  | _ => some (found.linkCheckOk && found.linkSameContent)

/-- The test after one that passed: a CONSOLE goes from test 3 to test 6 (R5). -/
def nextTest (r : Role) (n : Nat) : Nat := if n = 3 ∧ r = .console then 6 else n + 1

/-- Self-check after a test that passed (R5, R6): the next test starts, its counts at their start; test
4 starts with its first request. -/
def passTest (now : Time) (r : Role) (c : SelfCheck) : SelfCheck :=
  if c.test = 6 then { c with status := .passed }
  else
    let n := nextTest r c.test
    { c with test := n, expiries := 0
             requests := if n = 4 then 1 else c.requests
             requestTime := if n = 4 then now else c.requestTime }

/-- A self-check test comes to its end (R5, R6). -/
def endTest (found : SelfTestFindings) (now : Time) (s : State) : State :=
  if s.node.state = .selfcheck ∧ s.check.status = .running then
    match testResult found now s.ident s.check with
    | none => s
    | some true => { s with check := passTest now s.ident.role s.check, ledPhase := 0 }
    | some false => { s with check := { s.check with status := .failed }, ledPhase := 0 }
  else s

/-! ### LEDs, STOP input and wake -/

/-- The LED display goes to its next phase (R10). -/
def ledStep (s : State) : State := s.setLedPhase (nextPhase s)

/-- The states in which a falling edge of the STOP input is taken (R92). -/
def takesStopEdge (r : Role) (st : NodeState) : Bool :=
  if isJoint r then
    match st with
    | .setup | .settling | .idle | .homing | .parked | .engaged | .hold | .parking | .fault => true
    | _ => false
  else r == .console && (st == .live || st == .fault)

/-- A falling edge on the STOP input: the STOP slot armed, the STOP acted on in the same event (R92,
R93). -/
def stopEdge (s : State) : State :=
  if takesStopEdge s.ident.role s.node.state then actOnStop (s.setLink (armStop s.link)) else s

/-- A wake event at the uptime `now`: it wakes a node in STANDBY and does nothing elsewhere (R188). -/
def wakeEvent (now : Time) (s : State) : State :=
  let t := s.setUptime now
  if s.node.state = .standby then wake now t else t

end Sys2Proof.Machine
end

