-- ==== Sys2Proof/Machine/Events.lean ====
section
/-! DEFINITION. The meanings of the rows for the node controller and the pins: full reset, self-check,
LEDs, STOP, WAKE, encoder, end switches, DRIVE_FAULT, SPEED, handwheels and buttons. -/

namespace Sys2Proof.Machine

/-- FULL_RESET (R4). -/
def execFullReset (b0 b1 b2 b3 : Byte) (testHigh : Bool) (s : State) : Outcome :=
  .next (resetAll b0 b1 b2 b3 testHigh s)

/-- SELFCHECK_TEST_END (R5). -/
def execSelfcheckTestEnd (found : SelfTestFindings) (now : Time) (s : State) : Outcome :=
  .next (endTest found now (s.setUptime now))

/-- LED_PHASE_TIMER (R10). -/
def execLedPhaseTimer (s : State) : Outcome := .next (ledStep s)

/-- STOP_INPUT_FALLING_EDGE (R92). -/
def execStopInputFallingEdge (now : Time) (s : State) : Outcome :=
  .next (stopEdge (s.setUptime now))

/-- WAKE_PIN_FALLING_EDGE (R188). -/
def execWakePinFallingEdge (now : Time) (s : State) : Outcome := .next (wakeEvent now s)

/-- A start condition on the line: it wakes a node in STANDBY, which does not receive that frame (R188,
R39), and is seen as a frame's start elsewhere (R40). -/
def lineStart (now : Time) (s : State) : State :=
  if s.node.state = .standby then wakeEvent now s else startSeen (s.setUptime now)

/-- LINE_START_WAKE (R188). -/
def execLineStartWake (now : Time) (s : State) : Outcome := .next (lineStart now s)

/-- ENCODER_STEP (R69). -/
def execEncoderStep (l : QuadLine) (s : State) : Outcome := .next (stepEncoder l s)

/-- ILLEGAL_TRANSITION (R69). -/
def execIllegalTransition (now : Time) (s : State) : Outcome :=
  .next (illegalStep (s.setUptime now))

/-- INDEX_PULSE (R70). -/
def execIndexPulse (s : State) : Outcome := .next (indexCaptured s)

/-- END_SWITCH_TRIP (R79). -/
def execEndSwitchTrip (e : EndSwitch) (now : Time) (s : State) : Outcome :=
  .next (tripSwitch e (s.setUptime now))

/-- END_SWITCH_CLEAR (R79). -/
def execEndSwitchClear (e : EndSwitch) (s : State) : Outcome := .next (clearSwitch e s)

/-- DRIVE_FAULT_ASSERT (R78). -/
def execDriveFaultAssert (now : Time) (s : State) : Outcome :=
  .next (assertDriveFault (s.setUptime now))

/-- DRIVE_FAULT_RELEASE (R78). -/
def execDriveFaultRelease (s : State) : Outcome := .next (releaseDriveFault s)

/-- SPEED_EDGE (R104). -/
def execSpeedEdge (now : Time) (s : State) : Outcome := .next (speedPulse now (s.setUptime now))

/-- HANDWHEEL_STEP (R171). -/
def execHandwheelStep (w : Wheel) (c : QuadChange) (s : State) : Outcome := .next (turnWheel w c s)

/-- ENGAGE_BUTTON_PRESS (R175). -/
def execEngageButtonPress (s : State) : Outcome := .next (pressEngage s)

/-- PARK_BUTTON_PRESS (R175). -/
def execParkButtonPress (s : State) : Outcome := .next (pressPark s)

/-- BUTTON_RELEASE (R175). -/
def execButtonRelease (b : Button) (s : State) : Outcome := .next (releaseButton b s)

end Sys2Proof.Machine
end

