-- ==== Sys2Proof/Machine/Frames.lean ====
section
/-! DEFINITION. The meanings of the rows whose command is a frame at its end condition: each is the
reception of that frame (R35 to R38). -/

namespace Sys2Proof.Machine

/-- The frame of a COMMAND with the op its row names (R191). -/
def commandFrame (op : BitVec 4) (a : CommandArgs) : Frame :=
  { src := a.src
    body := .command { target := a.target, op := op, seq := a.seq, auth := a.auth } }

/-- The frame of a SETUP with the item code its row names (R195). -/
def setupFrame (item : Byte) (a : SetupArgs) : Frame :=
  { src := a.src
    body := .setup { auth := a.auth, target := a.target, item := item, v1 := a.v1, v2 := a.v2
                     v3 := a.v3, v4 := a.v4 } }

/-- The frame of a QUERY with the item code its row names (R191). -/
def queryFrame (item : BitVec 5) (a : QueryArgs) : Frame :=
  { src := a.src, body := .query { target := a.target, item := item, part := a.part } }

/-- Reception of a frame of which nothing is dated by its start: its end condition stands for the
arrival capture. -/
def receiveAt (f : Frame) (now : Time) (s : State) : State := receive f now now s

/-- FRAME_MALFORMED (R35). -/
def execFrameMalformed (raw : RawFrame) (capture now : Time) (s : State) : Outcome :=
  .next (receiveRaw raw capture now s)

/-- FRAME_IGNORED (R37). -/
def execFrameIgnored (f : Frame) (capture now : Time) (s : State) : Outcome :=
  .next (receive f capture now s)

/-- OWN_ADDRESS_FRAME (R38). -/
def execOwnAddressFrame (f : Frame) (capture now : Time) (s : State) : Outcome :=
  .next (receive f capture now s)

/-- STOP_FRAME (R93). -/
def execStopFrame (src : Addr) (p : StopPayload) (now : Time) (s : State) : Outcome :=
  .next (receiveAt { src := src, body := .stop p } now s)

/-- VEHICLE_FRAME (R44). -/
def execVehicleFrame (src : Addr) (p : VehiclePayload) (capture now : Time) (s : State) : Outcome :=
  .next (receive { src := src, body := .vehicle p } capture now s)

/-- AIM_FRAME (R44). -/
def execAimFrame (src : Addr) (p : AimPayload) (capture now : Time) (s : State) : Outcome :=
  .next (receive { src := src, body := .aim p } capture now s)

/-- REPORT_FRAME (R44). -/
def execReportFrame (src : Addr) (p : ReportPayload) (capture now : Time) (s : State) : Outcome :=
  .next (receive { src := src, body := .report p } capture now s)

/-- COMMAND_HOME (R82). -/
def execCommandHome (a : CommandArgs) (now : Time) (s : State) : Outcome :=
  .next (receiveAt (commandFrame 1 a) now s)

/-- COMMAND_ENGAGE (R157). -/
def execCommandEngage (a : CommandArgs) (now : Time) (s : State) : Outcome :=
  .next (receiveAt (commandFrame 2 a) now s)

/-- COMMAND_PARK (R91). -/
def execCommandPark (a : CommandArgs) (now : Time) (s : State) : Outcome :=
  .next (receiveAt (commandFrame 3 a) now s)

/-- COMMAND_CLEAR (R17). -/
def execCommandClear (a : CommandArgs) (now : Time) (s : State) : Outcome :=
  .next (receiveAt (commandFrame 4 a) now s)

/-- COMMAND_CLEAR_MARKS (R155). -/
def execCommandClearMarks (a : CommandArgs) (now : Time) (s : State) : Outcome :=
  .next (receiveAt (commandFrame 5 a) now s)

/-- COMMAND_STANDBY (R187). -/
def execCommandStandby (a : CommandArgs) (now : Time) (s : State) : Outcome :=
  .next (receiveAt (commandFrame 6 a) now s)

/-- COMMAND_UNKNOWN_OP (R13). -/
def execCommandUnknownOp (a : CommandArgs) (op : BitVec 4) (now : Time) (s : State) : Outcome :=
  .next (receiveAt (commandFrame op a) now s)

/-- SETUP_G1 (R182). -/
def execSetupG1 (a : SetupArgs) (now : Time) (s : State) : Outcome :=
  .next (receiveAt (setupFrame (itemCode .g1) a) now s)

/-- SETUP_G2 (R182). -/
def execSetupG2 (a : SetupArgs) (now : Time) (s : State) : Outcome :=
  .next (receiveAt (setupFrame (itemCode .g2) a) now s)

/-- SETUP_G3 (R182). -/
def execSetupG3 (a : SetupArgs) (now : Time) (s : State) : Outcome :=
  .next (receiveAt (setupFrame (itemCode .g3) a) now s)

/-- SETUP_G4 (R182). -/
def execSetupG4 (a : SetupArgs) (now : Time) (s : State) : Outcome :=
  .next (receiveAt (setupFrame (itemCode .g4) a) now s)

/-- SETUP_G5 (R182). -/
def execSetupG5 (a : SetupArgs) (now : Time) (s : State) : Outcome :=
  .next (receiveAt (setupFrame (itemCode .g5) a) now s)

/-- SETUP_C1 (R182). -/
def execSetupC1 (a : SetupArgs) (now : Time) (s : State) : Outcome :=
  .next (receiveAt (setupFrame (itemCode .c1) a) now s)

/-- SETUP_C2 (R182). -/
def execSetupC2 (a : SetupArgs) (now : Time) (s : State) : Outcome :=
  .next (receiveAt (setupFrame (itemCode .c2) a) now s)

/-- SETUP_PAGE_A (R182). -/
def execSetupPageA (n : PageNo) (a : SetupArgs) (now : Time) (s : State) : Outcome :=
  .next (receiveAt (setupFrame (itemCode (.pageA n)) a) now s)

/-- SETUP_PAGE_B (R182). -/
def execSetupPageB (n : PageNo) (a : SetupArgs) (now : Time) (s : State) : Outcome :=
  .next (receiveAt (setupFrame (itemCode (.pageB n)) a) now s)

/-- SETUP_DIRECTORY (R182). -/
def execSetupDirectory (m : Fin 8) (a : SetupArgs) (now : Time) (s : State) : Outcome :=
  .next (receiveAt (setupFrame (itemCode (.dir m)) a) now s)

/-- SETUP_T1 (R182). -/
def execSetupT1 (a : SetupArgs) (now : Time) (s : State) : Outcome :=
  .next (receiveAt (setupFrame (itemCode .t1) a) now s)

/-- SETUP_T2 (R182). -/
def execSetupT2 (a : SetupArgs) (now : Time) (s : State) : Outcome :=
  .next (receiveAt (setupFrame (itemCode .t2) a) now s)

/-- SETUP_T3 (R182). -/
def execSetupT3 (a : SetupArgs) (now : Time) (s : State) : Outcome :=
  .next (receiveAt (setupFrame (itemCode .t3) a) now s)

/-- SETUP_UNKNOWN_ITEM (R180). -/
def execSetupUnknownItem (code : Byte) (a : SetupArgs) (now : Time) (s : State) : Outcome :=
  .next (receiveAt (setupFrame code a) now s)

/-- COMMIT (R184). -/
def execCommit (a : SetupArgs) (now : Time) (s : State) : Outcome :=
  .next (receiveAt (setupFrame (itemCode .commit) a) now s)

/-- QUERY_IDENTITY (R186). -/
def execQueryIdentity (a : QueryArgs) (now : Time) (s : State) : Outcome :=
  .next (receiveAt (queryFrame 1 a) now s)

/-- QUERY_NODE (R186). -/
def execQueryNode (a : QueryArgs) (now : Time) (s : State) : Outcome :=
  .next (receiveAt (queryFrame 2 a) now s)

/-- QUERY_LINK (R186). -/
def execQueryLink (a : QueryArgs) (now : Time) (s : State) : Outcome :=
  .next (receiveAt (queryFrame 3 a) now s)

/-- QUERY_PEER_SUMMARY (R186). -/
def execQueryPeerSummary (a : QueryArgs) (now : Time) (s : State) : Outcome :=
  .next (receiveAt (queryFrame 4 a) now s)

/-- The item code of PEER n, 5..11 (R186). -/
def peerItem (n : Fin 7) : BitVec 5 := BitVec.ofNat 5 (5 + n.val)

/-- QUERY_PEER (R186). -/
def execQueryPeer (n : Fin 7) (a : QueryArgs) (now : Time) (s : State) : Outcome :=
  .next (receiveAt (queryFrame (peerItem n) a) now s)

/-- QUERY_DIRECTORY_MARKS (R186). -/
def execQueryDirectoryMarks (a : QueryArgs) (now : Time) (s : State) : Outcome :=
  .next (receiveAt (queryFrame 12 a) now s)

/-- QUERY_PAGE_MARKS (R186). -/
def execQueryPageMarks (a : QueryArgs) (now : Time) (s : State) : Outcome :=
  .next (receiveAt (queryFrame 13 a) now s)

/-- QUERY_WORKING_CONTEXT (R186). -/
def execQueryWorkingContext (a : QueryArgs) (now : Time) (s : State) : Outcome :=
  .next (receiveAt (queryFrame 14 a) now s)

/-- QUERY_BIAS (R186). -/
def execQueryBias (a : QueryArgs) (now : Time) (s : State) : Outcome :=
  .next (receiveAt (queryFrame 15 a) now s)

/-- QUERY_SETUP (R186). -/
def execQuerySetup (a : QueryArgs) (now : Time) (s : State) : Outcome :=
  .next (receiveAt (queryFrame 16 a) now s)

/-- QUERY_UNKNOWN_ITEM (R192). -/
def execQueryUnknownItem (item : BitVec 5) (a : QueryArgs) (now : Time) (s : State) : Outcome :=
  .next (receiveAt (queryFrame item a) now s)

end Sys2Proof.Machine
end

