-- ==== Sys2Proof/Machine/Outcomes.lean ====
section
/-! DEFINITION. The rows that name what comes about inside another row's step (health changes and what
a delivered sample brings). Each runs that step, and stands for it only where the named outcome comes
about; elsewhere it changes nothing. DEDUCED, safe: log entry 10. -/

namespace Sys2Proof.Machine

/-- A step taken where its named outcome comes about, judged from the states before and after it. -/
def whenComes (comes : State → State → Bool) (f : State → State) (s : State) : State :=
  if comes s (f s) then f s else s

/-- A sample-delivering step taken where its named outcome comes about. -/
def sampleComes (comes : State → State → Bool) (tr : SampleTrigger) (now : Time) (s : State) : State :=
  whenComes comes (runTrigger tr now) s

/-! ### Health (R32 to R34) -/

/-- Health goes from one value to another. -/
def healthGoes (a b : Health) (s t : State) : Bool := s.link.health == a && t.link.health == b

/-- HEALTH_NOISY (R32): the transmit error that moves CLEAN to NOISY. -/
def execHealthNoisy (s : State) : Outcome := .next (whenComes (healthGoes .clean .noisy) sendError s)

/-- HEALTH_MUTE (R33): the transmit error that moves NOISY to MUTE. -/
def execHealthMute (s : State) : Outcome := .next (whenComes (healthGoes .noisy .mute) sendError s)

/-- HEALTH_CLEAN_FROM_NOISY (R32): the success that moves NOISY to CLEAN. -/
def execHealthCleanFromNoisy (s : State) : Outcome :=
  .next (whenComes (healthGoes .noisy .clean) sendSuccess s)

/-- HEALTH_CLEAN_FROM_MUTE (R34): the reception that moves MUTE to CLEAN. -/
def execHealthCleanFromMute (f : Frame) (capture now : Time) (s : State) : Outcome :=
  .next (whenComes (healthGoes .mute .clean) (receive f capture now) s)

/-! ### What a sample brings -/

/-- The node leaves SETTLING for PARKED or IDLE. -/
def leavesSettling (s t : State) : Bool :=
  s.node.state == .settling && (t.node.state == .parked || t.node.state == .idle)

/-- The run length reaches 2048 (R66). -/
def captureEnds (s t : State) : Bool := leavesSettling s t && runLength t.sensor.run == 2048

/-- The settling count reaches 30,000 with the run short of 2048 (R67). -/
def settlingEnds (s t : State) : Bool := leavesSettling s t && runLength t.sensor.run != 2048

/-- The reading of a trigger is invalid or abandoned (R62). -/
def readingMissed (tr : SampleTrigger) (s : State) : Bool :=
  s.sensor.inFlight.isSome &&
    (match tr with
     | .reply r => !r.abandoned && !replyValid r
     | .expiry _ => true)

/-- An invalid or abandoned reading leaves the miss count at 3 or more in a state in which SENSOR is
raised (R63). -/
def missesReach (tr : SampleTrigger) (s t : State) : Bool :=
  readingMissed tr s && raisesSensor s.node.state && decide (3 ≤ t.sensor.misses)

/-- The homing count reaches 60,000 and HOME_FAIL is raised (R86). -/
def homeTimesOut (s t : State) : Bool :=
  (match s.drive.home with
   | some m => decide (60000 ≤ m.count + 1)
   | none => false)
    && s.node.state == .homing && t.node.state == .fault && hasCause t.node.record.causes .homeFail

/-- The park count reaches 60,000 and MOVE_TIMEOUT is raised (R90). -/
def moveTimesOut (s t : State) : Bool :=
  s.node.state == .parking && t.node.state == .fault && hasCause t.node.record.causes .moveTimeout

/-- The park move arrives (R89). -/
def parkArrives (s t : State) : Bool :=
  s.node.state == .parking
    && (t.node.state == .parked || t.node.state == .engaged || t.node.state == .hold)

/-- The hold ends (R162). -/
def holdEnds (s t : State) : Bool := s.node.state == .hold && t.node.state == .engaged

/-- BASE announces a regime as pending (R109). -/
def announces (s t : State) : Bool := t.vref.pending.isSome && t.vref.pending != s.vref.pending

/-- BASE publishes its pending regime (R110). -/
def publishes (s t : State) : Bool :=
  s.vref.pending.isSome && t.vref.published == s.vref.pending.map (·.1)
    && t.vref.pending != s.vref.pending

/-- A joint's local pending falls due and is switched to (R150). -/
def localFallsDue (s t : State) : Bool :=
  s.gains.pending.isSome && t.gains.pending.isNone && t.gains.regime == s.gains.pending.map (·.1)

/-- The speed timeout (R105). -/
def speedEnds (s t : State) : Bool := s.vref.lastSpeed.isSome && t.vref.lastSpeed.isNone

/-- A part's freshness ages (R48): an own sample changes nothing else in the entries. -/
def partsAge (s t : State) : Bool := t.peers.entries != s.peers.entries

/-- The blend count reaches 64 at an ENGAGED sample (R142). -/
def blendEnds (s t : State) : Bool :=
  s.node.state == .engaged && t.node.state == .engaged && decide (s.gains.blend < 64)
    && t.gains.blend == 64

/-- The reacquire count reaches 64 (R165). -/
def reacquireEnds (s t : State) : Bool :=
  s.corr.loss == .reacquiring && t.corr.loss == .tracking && t.corr.reacquire == 64

/-- The strain counter reaches 100 (R124). -/
def strainReaches (s t : State) : Bool := s.corr.strain == 99 && t.corr.strain == 100

/-- The reversal count reaches 12 (R154): a page is withdrawn, or UNSTABLE raised. -/
def reversalsReach (s t : State) : Bool :=
  s.node.state == .engaged
    && (t.gains.pages.map (·.withdrawn) != s.gains.pages.map (·.withdrawn)
      || (t.node.state == .fault && hasCause t.node.record.causes .unstable))

/-- BIAS_CAPTURE_END (R66). -/
def execBiasCaptureEnd (tr : SampleTrigger) (now : Time) (s : State) : Outcome :=
  .next (sampleComes captureEnds tr now s)

/-- SETTLING_TIMEOUT (R67). -/
def execSettlingTimeout (tr : SampleTrigger) (now : Time) (s : State) : Outcome :=
  .next (sampleComes settlingEnds tr now s)

/-- SENSOR_MISS_LIMIT (R63). -/
def execSensorMissLimit (tr : SampleTrigger) (now : Time) (s : State) : Outcome :=
  .next (sampleComes (missesReach tr) tr now s)

/-- HOME_TIMEOUT (R86). -/
def execHomeTimeout (tr : SampleTrigger) (now : Time) (s : State) : Outcome :=
  .next (sampleComes homeTimesOut tr now s)

/-- MOVE_TIMEOUT (R90). -/
def execMoveTimeout (tr : SampleTrigger) (now : Time) (s : State) : Outcome :=
  .next (sampleComes moveTimesOut tr now s)

/-- PARK_ARRIVAL (R89). -/
def execParkArrival (tr : SampleTrigger) (now : Time) (s : State) : Outcome :=
  .next (sampleComes parkArrives tr now s)

/-- HOLD_EXIT (R162). -/
def execHoldExit (tr : SampleTrigger) (now : Time) (s : State) : Outcome :=
  .next (sampleComes holdEnds tr now s)

/-- REGIME_ANNOUNCE (R109). -/
def execRegimeAnnounce (tr : SampleTrigger) (now : Time) (s : State) : Outcome :=
  .next (sampleComes announces tr now s)

/-- REGIME_EFFECT (R110). -/
def execRegimeEffect (tr : SampleTrigger) (now : Time) (s : State) : Outcome :=
  .next (sampleComes publishes tr now s)

/-- LOCAL_PENDING_DUE (R150). -/
def execLocalPendingDue (tr : SampleTrigger) (now : Time) (s : State) : Outcome :=
  .next (sampleComes localFallsDue tr now s)

/-- SPEED_TIMEOUT (R105). -/
def execSpeedTimeout (tr : SampleTrigger) (now : Time) (s : State) : Outcome :=
  .next (sampleComes speedEnds tr now s)

/-- PART_FRESHNESS_AGING (R48). -/
def execPartFreshnessAging (tr : SampleTrigger) (now : Time) (s : State) : Outcome :=
  .next (sampleComes partsAge tr now s)

/-- BLEND_COMPLETE (R142). -/
def execBlendComplete (tr : SampleTrigger) (now : Time) (s : State) : Outcome :=
  .next (sampleComes blendEnds tr now s)

/-- REACQUIRE_COMPLETE (R165). -/
def execReacquireComplete (tr : SampleTrigger) (now : Time) (s : State) : Outcome :=
  .next (sampleComes reacquireEnds tr now s)

/-- STRAIN_MARK (R124). -/
def execStrainMark (tr : SampleTrigger) (now : Time) (s : State) : Outcome :=
  .next (sampleComes strainReaches tr now s)

/-- REVERSAL_LIMIT (R154). -/
def execReversalLimit (tr : SampleTrigger) (now : Time) (s : State) : Outcome :=
  .next (sampleComes reversalsReach tr now s)

end Sys2Proof.Machine
end

