-- ==== Sys2Proof/Machine/Dispatch.lean ====
section
/-! DEFINITION. The meaning of every command: one arm per constructor of Instr, each one call. -/

namespace Sys2Proof.Machine

def exec (i : Instr) (s : State) : Host.Outcome State Fault Refusal :=
  match i with
  | .fullReset b0 b1 b2 b3 testHigh => Sys2Proof.Machine.execFullReset b0 b1 b2 b3 testHigh s
  | .selfcheckTestEnd found now => Sys2Proof.Machine.execSelfcheckTestEnd found now s
  | .ledPhaseTimer => Sys2Proof.Machine.execLedPhaseTimer s
  | .sampleTimerExpiry modeHigh now => Sys2Proof.Machine.execSampleTimerExpiry modeHigh now s
  | .rateSensorReply r now => Sys2Proof.Machine.execRateSensorReply r now s
  | .lineRestSeen => Sys2Proof.Machine.execLineRestSeen s
  | .contend => Sys2Proof.Machine.execContend s
  | .contentionLost => Sys2Proof.Machine.execContentionLost s
  | .contentionWin now => Sys2Proof.Machine.execContentionWin now s
  | .transmissionSuccess => Sys2Proof.Machine.execTransmissionSuccess s
  | .transmitError => Sys2Proof.Machine.execTransmitError s
  | .healthNoisy => Sys2Proof.Machine.execHealthNoisy s
  | .healthMute => Sys2Proof.Machine.execHealthMute s
  | .healthCleanFromNoisy => Sys2Proof.Machine.execHealthCleanFromNoisy s
  | .healthCleanFromMute f capture now => Sys2Proof.Machine.execHealthCleanFromMute f capture now s
  | .frameMalformed raw capture now => Sys2Proof.Machine.execFrameMalformed raw capture now s
  | .frameIgnored f capture now => Sys2Proof.Machine.execFrameIgnored f capture now s
  | .ownAddressFrame f capture now => Sys2Proof.Machine.execOwnAddressFrame f capture now s
  | .stopFrame src p now => Sys2Proof.Machine.execStopFrame src p now s
  | .vehicleFrame src p capture now => Sys2Proof.Machine.execVehicleFrame src p capture now s
  | .aimFrame src p capture now => Sys2Proof.Machine.execAimFrame src p capture now s
  | .reportFrame src p capture now => Sys2Proof.Machine.execReportFrame src p capture now s
  | .commandHome a now => Sys2Proof.Machine.execCommandHome a now s
  | .commandEngage a now => Sys2Proof.Machine.execCommandEngage a now s
  | .commandPark a now => Sys2Proof.Machine.execCommandPark a now s
  | .commandClear a now => Sys2Proof.Machine.execCommandClear a now s
  | .commandClearMarks a now => Sys2Proof.Machine.execCommandClearMarks a now s
  | .commandStandby a now => Sys2Proof.Machine.execCommandStandby a now s
  | .commandUnknownOp a op now => Sys2Proof.Machine.execCommandUnknownOp a op now s
  | .setupG1 a now => Sys2Proof.Machine.execSetupG1 a now s
  | .setupG2 a now => Sys2Proof.Machine.execSetupG2 a now s
  | .setupG3 a now => Sys2Proof.Machine.execSetupG3 a now s
  | .setupG4 a now => Sys2Proof.Machine.execSetupG4 a now s
  | .setupG5 a now => Sys2Proof.Machine.execSetupG5 a now s
  | .setupC1 a now => Sys2Proof.Machine.execSetupC1 a now s
  | .setupC2 a now => Sys2Proof.Machine.execSetupC2 a now s
  | .setupPageA n a now => Sys2Proof.Machine.execSetupPageA n a now s
  | .setupPageB n a now => Sys2Proof.Machine.execSetupPageB n a now s
  | .setupDirectory m a now => Sys2Proof.Machine.execSetupDirectory m a now s
  | .setupT1 a now => Sys2Proof.Machine.execSetupT1 a now s
  | .setupT2 a now => Sys2Proof.Machine.execSetupT2 a now s
  | .setupT3 a now => Sys2Proof.Machine.execSetupT3 a now s
  | .setupUnknownItem code a now => Sys2Proof.Machine.execSetupUnknownItem code a now s
  | .commit a now => Sys2Proof.Machine.execCommit a now s
  | .queryIdentity a now => Sys2Proof.Machine.execQueryIdentity a now s
  | .queryNode a now => Sys2Proof.Machine.execQueryNode a now s
  | .queryLink a now => Sys2Proof.Machine.execQueryLink a now s
  | .queryPeerSummary a now => Sys2Proof.Machine.execQueryPeerSummary a now s
  | .queryPeer n a now => Sys2Proof.Machine.execQueryPeer n a now s
  | .queryDirectoryMarks a now => Sys2Proof.Machine.execQueryDirectoryMarks a now s
  | .queryPageMarks a now => Sys2Proof.Machine.execQueryPageMarks a now s
  | .queryWorkingContext a now => Sys2Proof.Machine.execQueryWorkingContext a now s
  | .queryBias a now => Sys2Proof.Machine.execQueryBias a now s
  | .querySetup a now => Sys2Proof.Machine.execQuerySetup a now s
  | .queryUnknownItem item a now => Sys2Proof.Machine.execQueryUnknownItem item a now s
  | .stopInputFallingEdge now => Sys2Proof.Machine.execStopInputFallingEdge now s
  | .wakePinFallingEdge now => Sys2Proof.Machine.execWakePinFallingEdge now s
  | .lineStartWake now => Sys2Proof.Machine.execLineStartWake now s
  | .encoderStep l => Sys2Proof.Machine.execEncoderStep l s
  | .illegalTransition now => Sys2Proof.Machine.execIllegalTransition now s
  | .indexPulse => Sys2Proof.Machine.execIndexPulse s
  | .endSwitchTrip e now => Sys2Proof.Machine.execEndSwitchTrip e now s
  | .endSwitchClear e => Sys2Proof.Machine.execEndSwitchClear e s
  | .driveFaultAssert now => Sys2Proof.Machine.execDriveFaultAssert now s
  | .driveFaultRelease => Sys2Proof.Machine.execDriveFaultRelease s
  | .speedEdge now => Sys2Proof.Machine.execSpeedEdge now s
  | .handwheelStep w c => Sys2Proof.Machine.execHandwheelStep w c s
  | .engageButtonPress => Sys2Proof.Machine.execEngageButtonPress s
  | .parkButtonPress => Sys2Proof.Machine.execParkButtonPress s
  | .buttonRelease b => Sys2Proof.Machine.execButtonRelease b s
  | .biasCaptureEnd tr now => Sys2Proof.Machine.execBiasCaptureEnd tr now s
  | .settlingTimeout tr now => Sys2Proof.Machine.execSettlingTimeout tr now s
  | .sensorMissLimit tr now => Sys2Proof.Machine.execSensorMissLimit tr now s
  | .homeTimeout tr now => Sys2Proof.Machine.execHomeTimeout tr now s
  | .moveTimeout tr now => Sys2Proof.Machine.execMoveTimeout tr now s
  | .parkArrival tr now => Sys2Proof.Machine.execParkArrival tr now s
  | .holdExit tr now => Sys2Proof.Machine.execHoldExit tr now s
  | .regimeAnnounce tr now => Sys2Proof.Machine.execRegimeAnnounce tr now s
  | .regimeEffect tr now => Sys2Proof.Machine.execRegimeEffect tr now s
  | .localPendingDue tr now => Sys2Proof.Machine.execLocalPendingDue tr now s
  | .speedTimeout tr now => Sys2Proof.Machine.execSpeedTimeout tr now s
  | .partFreshnessAging tr now => Sys2Proof.Machine.execPartFreshnessAging tr now s
  | .blendComplete tr now => Sys2Proof.Machine.execBlendComplete tr now s
  | .reacquireComplete tr now => Sys2Proof.Machine.execReacquireComplete tr now s
  | .strainMark tr now => Sys2Proof.Machine.execStrainMark tr now s
  | .reversalLimit tr now => Sys2Proof.Machine.execReversalLimit tr now s

end Sys2Proof.Machine
end

