-- ==== Sys2Proof/Machine/Step.lean ====
section
/-! DEFINITION. The step: the command at the front of the queue is taken and run. -/

namespace Sys2Proof.Machine

/-- One µs of a block to which nothing happens: the uptime runs on ("Conventions, Time"). DESIGN CHOICE, unsafe: log
entry 5. -/
def idle (s : State) : State := s.setUptime (s.uptime + 1)

/-- One step: the command at the front of the queue is run with the queue's rest; on an empty queue the
block idles. -/
def step (s : State) : Host.Outcome State Fault Refusal :=
  match s.pending with
  | [] => .next (idle s)
  | c :: rest => exec c (s.setPending rest)

/-- The state with the command that a word spells put at the front of its queue; unchanged where the
word spells none. -/
def State.withFetchWord (s : State) (nbits w : Nat) : State :=
  match decodeTableWord nbits w with
  | some c => s.setPending (c :: s.pending)
  | none => s

end Sys2Proof.Machine
end

