-- ==== Sys2Proof/Safety.lean ====
section
/-! DEFINITION. What a safe node is, in the terms statements use: the brake and the drive output outside
motion, the pairing of moves with their states, and the ranges of the counts. -/

namespace Sys2Proof.Machine

/-- Outside the motion states the drive stands: ENABLE off, brake applied, command 0 (R76); in them
ENABLE is on and the brake released. -/
def State.outputsFollow (s : State) : Prop :=
  s.drive.enable = isMotion s.node.state ∧ s.drive.brake = !isMotion s.node.state
    ∧ (isMotion s.node.state = false → s.drive.lastCommand = 0)

/-- A home move stands exactly in HOMING and a park move exactly in PARKING (section 5.1). -/
def State.movesFollow (s : State) : Prop :=
  s.drive.home.isSome = (s.node.state == .homing) ∧ s.drive.park.isSome = (s.node.state == .parking)

/-- The engage latch is clear but in HOMING and PARKING (R12). -/
def State.latchFollows (s : State) : Prop :=
  s.node.latch = true → s.node.state = .homing ∨ s.node.state = .parking

/-- The fault record is empty but in FAULT (R14, R18). -/
def State.recordFollows (s : State) : Prop :=
  s.node.record.first.isSome = (s.node.state == .fault)

/-- The index capture is armed in HOMING alone (R70). -/
def State.captureFollows (s : State) : Prop :=
  s.sensor.indexArmed = (s.node.state == .homing)

/-- A coarse node is never in ENGAGED while its link health is MUTE (R160). -/
def State.coarseHeard (s : State) : Prop :=
  isCoarse s.ident.role = true → s.link.health = .mute → s.node.state ≠ .engaged

/-- From establishment on the page in use, and page 0 with it, is present and not withdrawn (R140). With
no page in use a joint is before its commit (SELFCHECK, UNASSIGNED, an unhomed SETUP) or in a FAULT
from SETUP, which a clash alone raises and full reset alone leaves (R17); it then holds no pending regime
and no commit (R140). SETUP has no page in use and is unhomed. -/
def State.pagesStand (s : State) : Prop :=
  isJoint s.ident.role = true →
    (∀ p, s.gains.page = some p →
      usable (pageAt s.gains p) = true ∧ usable (pageAt s.gains 0) = true)
    ∧ (s.gains.page = none → (s.node.state = .selfcheck ∨ s.node.state = .unassigned
          ∨ s.node.state = .setup ∨ (s.node.state = .fault ∧ clashed s = true))
        ∧ s.gains.pending = none ∧ s.setup.committed = false)
    ∧ (s.node.state = .setup → s.node.homed = false ∧ s.gains.page = none) ∧ s.captureFollows

/-- At BASE the roughness sum is the sum of the terms in the ring, which holds 64 entries at most (R73,
R107). -/
def State.sumFollows (s : State) : Prop :=
  s.ident.role = .base → s.sensor.ring.length ≤ 64 ∧ s.vref.roughSum = ringSum s.sensor.ring

/-- In ENGAGED at a limited joint, once a sample has moved the blend on, the target last formed lies in
the travel window (R123). -/
def State.targetFollows (s : State) : Prop :=
  s.node.state = .engaged → 0 < s.gains.blend → isLimited s.setup = true →
    (geoG2 s.setup).min ≤ (geoG2 s.setup).max →
    (geoG2 s.setup).min ≤ s.corr.targetPrev ∧ s.corr.targetPrev ≤ (geoG2 s.setup).max

/-- A CONSOLE in FAULT holds no AIM and no COMMAND to send (R16, R20, R170). -/
def State.silenceFollows (s : State) : Prop :=
  s.ident.role = .console → s.node.state = .fault →
    s.link.slots.aim = .empty ∧ s.link.slots.command = .empty

/-- The working invariant: outputs, moves, latch, fault record, index capture and a console's slots stand as
the node state asks. -/
def State.orderly (s : State) : Prop :=
  s.outputsFollow ∧ s.movesFollow ∧ s.latchFollows ∧ s.recordFollows ∧ s.captureFollows
    ∧ s.silenceFollows

/-! ### Hearing -/

/-- The hold causes as judged: none stands in ENGAGED, and in HOLD with one the hold exit count is 0
(R159, R160, R162). -/
def State.judged (s : State) : Prop :=
  (s.node.state = .engaged → holdCause s = false)
    ∧ (s.node.state = .hold → holdCause s = true → s.node.holdExit = 0)

/-- The state once a valid frame is counted at its end condition (R35, R40), in MUTE in the reception run
too, whose 64th restores CLEAN (R34) and leaves that count at 0 by the model's choice (log entry 35): what
the frame then does comes on top of this. -/
def State.heard (now : Time) (s : State) : State :=
  { s with
    uptime := now
    link := { s.link with
      rxOk := s.link.rxOk + 1, activity := .idle, line := .idle
      health := if s.link.health = .mute ∧ s.link.receptionRun = 63 then .clean else s.link.health
      errors := if s.link.health = .mute ∧ s.link.receptionRun = 63 then 0 else s.link.errors
      receptionRun :=
        if s.link.health = .mute then
          (if s.link.receptionRun = 63 then 0 else s.link.receptionRun + 1)
        else s.link.receptionRun } }

/-- The node hears and hands on (R39), in whatever health (R33), and the hold causes stand judged once
the frame is counted. -/
def State.hearing (s : State) : Prop :=
  contends s.node.state = true ∧ s.link.line ≠ .unready ∧ ownFrameOnLine s.link = false
    ∧ (s.heard s.uptime).judged

/-- A COMMAND names the node (R37) and comes from another station or a tool (R38). -/
def State.addressed (s : State) (a : CommandArgs) : Prop :=
  a.src ≠ s.ident.address ∧ (a.target.toNat = s.ident.address.toNat ∨ a.target = 15)

/-- A SETUP names the node, comes from elsewhere, and carries the fused auth code (R37, R38, R179). -/
def State.tooled (s : State) (a : SetupArgs) : Prop :=
  a.src ≠ s.ident.address ∧ a.target.toNat = s.ident.address.toNat ∧ a.auth = s.ident.auth

/-- A QUERY names the node and comes from elsewhere (R37, R38). -/
def State.asked (s : State) (a : QueryArgs) : Prop :=
  a.src ≠ s.ident.address ∧ a.target.toNat = s.ident.address.toNat

/-- A sample trigger that completes or abandons the request in flight at a joint role (R62): its reply,
not that of a request abandoned before, or an expiry while the timer runs. -/
def State.ends (s : State) (q : Request) (tr : SampleTrigger) : Prop :=
  isJoint s.ident.role = true ∧ samples s.node.state = true ∧ s.sensor.inFlight = some q
    ∧ (∀ m, tr = .expiry m → s.sensor.timer ≠ none)
    ∧ (∀ r, tr = .reply r → r.abandoned = false)

/-- The row of the event that a trigger is, at its uptime (R60, R62). -/
def eventOf (tr : SampleTrigger) (now : Time) : Instr :=
  match tr with
  | .reply r => .rateSensorReply r now
  | .expiry modeHigh => .sampleTimerExpiry modeHigh now

/-- Whether a trigger brings a valid reading (R61). -/
def triggerValid : SampleTrigger → Bool
  | .reply r => replyValid r
  | .expiry _ => false

/-- The state once the reading of a trigger is taken or missed (R62, R63). -/
def State.afterReading (tr : SampleTrigger) (now : Time) (s : State) : State :=
  match tr with
  | .reply r =>
    if replyValid r then (s.setUptime now).setSensor (takeReading r s.sensor)
    else missReading (s.setUptime now)
  | .expiry _ => missReading (s.setUptime now)

/-- The sample a trigger delivers (R60, R62). -/
def State.sampleFor (q : Request) (tr : SampleTrigger) (now : Time) (s : State) : Sample :=
  formSample q (triggerValid tr) (s.afterReading tr now)

/-- The state in which a trigger's sample is delivered: the peer table evaluated, the hold causes
judged (R48, R159). -/
def State.atDelivery (q : Request) (tr : SampleTrigger) (now : Time) (s : State) : State :=
  evaluated q (s.sampleFor q tr now) (s.afterReading tr now)

/-- The state in which the correction unit takes a trigger's sample up (R95, R114). -/
def State.takenUp (q : Request) (tr : SampleTrigger) (now : Time) (s : State) : State :=
  upstream (s.atDelivery q tr now).node.state (s.sampleFor q tr now) (s.atDelivery q tr now)

/-! ### What a state becomes, field by field -/

/-- A regime switch to r made in u (R139): r is in use, its entry VISITED, the page chosen in use and USED
(R138). The page that was in use leaves the gains and their blend; another one brings the blend from the
effective gains to its own, from k = 0 in ENGAGED (R143) and at once elsewhere (R144), and clears the
reversal flags and s (R146, R74). -/
def State.regimeSwitched (r : Regime) (u : State) : State :=
  let p := chosenPage u.gains r
  let g : GainDir := { u.gains with
    regime := some r, page := some p
    entries := u.gains.entries.set r { u.gains.entries[r] with visited := true }
    pages := u.gains.pages.set p { u.gains.pages[p] with used := true } }
  if u.gains.page = some p then { u with gains := g }
  else
    { u with
      gains := { g with
        fromGains := effectiveGains u.gains, toGains := u.gains.pages[p].gains
        blend := if u.node.state = .engaged then 0 else 64 }
      sensor := { u.sensor with ring := u.sensor.ring.map (fun e => { e with reversal := false }) }
      corr := { u.corr with sign := 0 } }

/-- What a sample delivered in u, taken up in w and ending in t leaves of a regime switch to r that it
brought: the gain directory as the switch left it, but in ENGAGED for the blend count of a command sent
(R142) and the mark of a strain (R124); another page leaves no reversal flag set. -/
def State.switchedAtSample (r : Regime) (u w t : State) : Prop :=
  let p := chosenPage u.gains r
  let g := (u.regimeSwitched r).gains
  (u.gains.page ≠ some p → reversalCount t.sensor.ring = 0)
  ∧ (u.node.state ≠ .engaged → t.gains.page = some p
      ∧ (t.node.state ≠ .engaged →
          t.gains = g ∧ t.corr.sign = (u.regimeSwitched r).corr.sign))
  ∧ (u.node.state = .engaged → u.drive.driveFault = false → anyTripped u = false →
      reversalCount w.sensor.ring ≤ 10 →
      t.gains = { g with
        blend := min 64 (g.blend + 1)
        pages := if 100 ≤ t.corr.strain then g.pages.set p { g.pages[p] with strained := true }
                 else g.pages })

/-- The drive outputs off, the brake applied, no move (R76). -/
def driveOff (d : Drive) : Drive :=
  { d with enable := false, brake := true, lastCommand := 0, home := none, park := none }

/-- A FAULT entered on a first cause with its bit of the cause set (R14): the record filled, the latch
cleared, the outputs off (R76), the index capture disarmed (R70), an open run closed (R68), a blend
ended (R145), the previous command 0 (R130), a reacquire ramp under way in ENGAGED halted (R14, log entry
15), a CONSOLE's AIM and COMMAND slots emptied (R16, R20, R170, log entry 31). -/
def State.faultEntered (c : Cause) (bit : Half) (s : State) : State :=
  { s with
    node := { s.node with
      state := .fault, latch := false, holdExit := 0
      record := { first := some c, causes := bit, later := 0, firstUptime := s.uptime
                  enteredFrom := some s.node.state } }
    ledPhase := 0
    link := if s.ident.role = .console
      then { s.link with slots := { s.link.slots with aim := .empty, command := .empty } } else s.link
    drive := driveOff s.drive
    sensor := { s.sensor with
      indexArmed := if s.node.state = .homing then false else s.sensor.indexArmed
      run := if s.node.state = .settling then none else s.sensor.run }
    corr := { s.corr with
      commandPrev := if s.node.state = .engaged then 0 else s.corr.commandPrev
      rampHalted := s.node.state == .engaged && s.corr.loss == .reacquiring }
    gains := { s.gains with blend := if s.node.state = .engaged then 64 else s.gains.blend } }

/-- A cause that joins the set in FAULT (R15). -/
def State.causeJoined (bit : Half) (s : State) : State :=
  { s with node := { s.node with record := { s.node.record with
      causes := s.node.record.causes ||| bit, later := min 255 (s.node.record.later + 1) } } }

/-- PARKING entered from ENGAGED, HOLD or FAULT with a new park move (R87): ENABLE on, the brake
released, the last command kept from ENGAGED and 0 from elsewhere (R76). -/
def State.parkEntered (s : State) : State :=
  { s with
    node := { s.node with state := .parking, holdExit := 0 }
    ledPhase := 0
    drive := { s.drive with
      enable := true, brake := false
      lastCommand := if s.node.state = .engaged then s.drive.lastCommand else 0
      home := none, park := some { count := 0, arrival := 0 } }
    corr := { s.corr with
      commandPrev := if s.node.state = .engaged then 0 else s.corr.commandPrev }
    gains := { s.gains with blend := if s.node.state = .engaged then 64 else s.gains.blend } }

/-- HOLD entered from ENGAGED (R160). -/
def State.holdEntered (s : State) : State :=
  { s with
    node := { s.node with state := .hold, holdExit := 0 }
    ledPhase := 0
    drive := driveOff s.drive
    corr := { s.corr with commandPrev := 0 }
    gains := { s.gains with blend := 64 } }

/-- The fault record as a first cause with its bit of the set fills it at an uptime, from a state (R14). -/
def recordOf (c : Cause) (bit : Half) (now : Time) (left : NodeState) : FaultRecord :=
  { first := some c, causes := bit, later := 0, firstUptime := now, enteredFrom := some left }

/-- What a STOP does (R93): the latch cleared, then by the state. -/
def State.stopped (s : State) : State :=
  let t : State := { s with node := { s.node with latch := false } }
  match s.node.state with
  | .engaged | .hold => t.parkEntered
  | .homing =>
    { t with
      node := { t.node with state := .idle, homed := false, holdExit := 0 }
      ledPhase := 0
      drive := driveOff s.drive
      sensor := { s.sensor with indexArmed := false } }
  | .live => { t with console := { s.console with aim := Axes.zero, last := s.console.counters } }
  | _ => t

/-- A run of steps that meets no fault and no refusal. -/
def safeRun (n : Nat) (s : State) : Prop := ∃ t, Host.Core.run core n s = .next t

end Sys2Proof.Machine
end

