-- ==== Sys2Proof/WellFormed.lean ====
section
/-! DEFINITION. Well-formed commands: a row that names what its frame is carries a frame of that kind. -/

namespace Sys2Proof

/-- The item codes a QUERY can name (R185). -/
def queryItemNamed (item : BitVec 5) : Bool := decide (1 ≤ item.toNat ∧ item.toNat ≤ 16)

/-- Whether an item has a part, at some role (R186). -/
def queryPartNamed (item : BitVec 5) (part : BitVec 3) : Bool :=
  part == 0 || (part == 1 && (item == 2 || item == 12 || item == 15))

/-- A frame of a kind and source that the filter may ignore (R37): not a STOP, and a VEHICLE, AIM or
REPORT only from the service address. -/
def mayBeIgnored (f : Frame) : Bool :=
  match f.body with
  | .stop _ => false
  | .vehicle _ | .aim _ | .report _ => f.src == 7
  | .command _ | .setup _ | .query _ | .reply _ => true

/-- Whether a command's operands fit its row. -/
def wellFormed : Instr → Bool
  | .frameMalformed raw _ _ => (Machine.judgeFrame raw).isNone
  | .frameIgnored f _ _ => mayBeIgnored f
  | .ownAddressFrame f _ _ => f.src != 7
  | .vehicleFrame src _ _ _ => src != 7
  | .aimFrame src _ _ _ => src != 7
  | .reportFrame src _ _ _ => src != 7
  | .commandUnknownOp _ op _ => decide (op.toNat = 0 ∨ 6 < op.toNat)
  | .fullReset _ _ _ _ _ | .selfcheckTestEnd _ _ | .ledPhaseTimer | .sampleTimerExpiry _ _
  | .rateSensorReply _ _ | .lineRestSeen | .contend | .contentionLost | .contentionWin _
  | .transmissionSuccess | .transmitError | .healthNoisy | .healthMute | .healthCleanFromNoisy
  | .healthCleanFromMute _ _ _ | .stopFrame _ _ _ | .commandHome _ _ | .commandEngage _ _
  | .commandPark _ _ | .commandClear _ _ | .commandClearMarks _ _ | .commandStandby _ _
  | .setupG1 _ _ | .setupG2 _ _ | .setupG3 _ _ | .setupG4 _ _ | .setupG5 _ _ | .setupC1 _ _
  | .setupC2 _ _ | .setupPageA _ _ _ | .setupPageB _ _ _ | .setupDirectory _ _ _ | .setupT1 _ _
  | .setupT2 _ _ | .setupT3 _ _ | .setupUnknownItem _ _ _ | .commit _ _ | .queryIdentity _ _
  | .queryNode _ _ | .queryLink _ _ | .queryPeerSummary _ _ | .queryPeer _ _ _
  | .queryDirectoryMarks _ _ | .queryPageMarks _ _ | .queryWorkingContext _ _ | .queryBias _ _
  | .querySetup _ _ | .queryUnknownItem _ _ _ | .stopInputFallingEdge _ | .wakePinFallingEdge _
  | .lineStartWake _ | .encoderStep _ | .illegalTransition _ | .indexPulse | .endSwitchTrip _ _
  | .endSwitchClear _ | .driveFaultAssert _ | .driveFaultRelease | .speedEdge _ | .handwheelStep _ _
  | .engageButtonPress | .parkButtonPress | .buttonRelease _ | .biasCaptureEnd _ _
  | .settlingTimeout _ _ | .sensorMissLimit _ _ | .homeTimeout _ _ | .moveTimeout _ _
  | .parkArrival _ _ | .holdExit _ _ | .regimeAnnounce _ _ | .regimeEffect _ _
  | .localPendingDue _ _ | .speedTimeout _ _ | .partFreshnessAging _ _ | .blendComplete _ _
  | .reacquireComplete _ _ | .strainMark _ _ | .reversalLimit _ _ => true

end Sys2Proof
end

