-- ==== Sys2Proof/Certificates/Slice0/Obligations.lean ====
section
/-! DEFINITION. The statements for the provers. A statement of a command's result is an equation of exec
whose right side names every field that changes, so it is the command's frame and its completion
too. Vocabulary (hearing, heard, addressed, tooled, asked, ends, eventOf, orderly,
judged) stands in Safety.lean. -/

open Sys2Proof Sys2Proof.Machine

/-! ### The machine as a whole -/

/-- The step takes the command at the front of the queue and runs it on the state with the queue's
rest. On an empty queue, by the model's choice (log entry 5), it passes one µs of uptime and nothing
else. -/
def Obligations.StepsRunTheFrontCommandOrIdle : Prop :=
  (∀ (c : Instr) (rest : List Instr) (s : State),
    s.pending = c :: rest → step s = exec c { s with pending := rest })
  ∧ ∀ s : State, s.pending = [] → step s = .next { s with uptime := s.uptime + 1 }

/-- Every command answers a next state in every state, and leaves the queue as it was. -/
def Obligations.CommandsCompleteAndKeepTheQueue : Prop :=
  ∀ (c : Instr) (s : State), ∃ t, exec c s = .next t ∧ t.pending = s.pending

/-- A frame as a correct sender puts it on the line is judged valid and read back as it was sent (R22,
R23, R35, R190, R191). -/
def Obligations.SentFramesAreReadBack : Prop :=
  ∀ f : Frame, judgeFrame (encodeFrame f) = some f

/-- Every step keeps the working invariant: the drive outputs are off outside HOMING, PARKING and
ENGAGED (R76), home and park moves stand only in their states, the engage latch only in HOMING and
PARKING (R12), the fault record only in FAULT (R14, R18), the index capture only in HOMING (R70), and a
CONSOLE in FAULT holds no AIM and no COMMAND to send (R16, R20, R170; that what it held is emptied at the
entry is the model's reading, log entry 31). -/
def Obligations.StepsKeepTheNodeOrderly : Prop :=
  ∀ s t : State, s.orderly → step s = .next t → t.orderly

/-- Every step keeps the hold causes judged: a node in ENGAGED has none, and a node in HOLD with one has a
hold exit count of 0 (R159, R160, R162). So a coarse node is never in ENGAGED while its link health is
MUTE, which every step keeps too. -/
def Obligations.StepsKeepHoldCausesJudged : Prop :=
  (∀ s t : State, s.judged → step s = .next t → t.judged)
  ∧ (∀ s t : State, s.coarseHeard → step s = .next t → t.coarseHeard)
  ∧ ∀ s : State, s.judged → s.coarseHeard

/-- Every step keeps the page in use, and page 0 with it, present and not withdrawn from establishment on
(R140, R154), and page 0 is never withdrawn at any role. -/
def Obligations.StepsKeepThePageInUseUsable : Prop :=
  (∀ s t : State, s.pagesStand → step s = .next t → t.pagesStand)
  ∧ ∀ s t : State, s.gains.pages[(0 : PageNo)].withdrawn = false → step s = .next t →
      t.gains.pages[(0 : PageNo)].withdrawn = false

/-- At BASE every step keeps the roughness sum equal to the sum of the terms in the sample ring, and the
ring at 64 entries or fewer (R73, R74, R107). -/
def Obligations.StepsKeepTheRoughnessSum : Prop :=
  ∀ s t : State, s.sumFollows → step s = .next t → t.sumFollows

/-- Every step keeps the target of an ENGAGED limited joint in its travel window, min and max inclusive,
once a sample of the engagement has formed one (R123). -/
def Obligations.StepsKeepTheTargetInItsWindow : Prop :=
  ∀ s t : State, s.targetFollows → step s = .next t → t.targetFollows

/-- The machine after reset meets every invariant that steps keep: orderly (R4, R76, R94), hold causes
judged (R160, R162), page 0 not withdrawn and pages standing (R140, R156), sum (R107) and target
(R123). Which part stands at reset is the model's choice (log entry 1). -/
def Obligations.ResetMeetsTheInvariants : Prop :=
  State.reset.orderly ∧ State.reset.judged ∧ State.reset.coarseHeard ∧ State.reset.pagesStand
    ∧ State.reset.gains.pages[(0 : PageNo)].withdrawn = false ∧ State.reset.sumFollows
    ∧ State.reset.targetFollows

/-- A step in FAULT that stays in FAULT keeps the first cause, the first uptime and the entered-from
state, and drops no cause from the set; the one command set apart is a full reset (R15). -/
def Obligations.FirstCauseStandsUntilFaultIsLeft : Prop :=
  ∀ (c : Instr) (s t : State), (∀ a b d e x, c ≠ .fullReset a b d e x) →
    s.node.state = .fault → exec c s = .next t → t.node.state = .fault →
    t.node.record.first = s.node.record.first
      ∧ t.node.record.firstUptime = s.node.record.firstUptime
      ∧ t.node.record.enteredFrom = s.node.record.enteredFrom
      ∧ t.node.record.causes &&& s.node.record.causes = s.node.record.causes

/-- SELFCHECK and UNASSIGNED are left by full reset alone (R9); nothing a node hears or feels there
changes its homed flag, latch, record, drive outputs (ENABLE, BRAKE, and the command, 0 there by R76, an
invariant of every step) or setup. -/
def Obligations.SelfcheckAndUnassignedAreLeftByResetAlone : Prop :=
  ∀ (c : Instr) (s t : State), (∀ a b d e x, c ≠ .fullReset a b d e x) → s.captureFollows →
    s.node.state = .selfcheck ∨ s.node.state = .unassigned → exec c s = .next t →
    t.node = s.node ∧ t.setup = s.setup ∧ t.drive.enable = s.drive.enable
      ∧ t.drive.brake = s.drive.brake
      ∧ (s.outputsFollow → t.drive.lastCommand = s.drive.lastCommand)

/-- In states other than SETUP the setup tables stand: the items taken, the commit status, which pages
and entries are present, their gains and page numbers (R183, "The setup tables … change only in
SETUP and at full reset"). -/
def Obligations.TablesChangeOnlyInSetup : Prop :=
  ∀ (c : Instr) (s t : State), (∀ a b d e x, c ≠ .fullReset a b d e x) →
    s.node.state ≠ .setup → exec c s = .next t →
    t.setup.items = s.setup.items ∧ t.setup.committed = s.setup.committed
      ∧ t.setup.phase = s.setup.phase
      ∧ (∀ p : PageNo, t.gains.pages[p].present = s.gains.pages[p].present
          ∧ t.gains.pages[p].gains = s.gains.pages[p].gains
          ∧ (s.gains.pages[p].withdrawn = true → t.gains.pages[p].withdrawn = true))
      ∧ ∀ r : Regime, t.gains.entries[r].present = s.gains.entries[r].present
          ∧ t.gains.entries[r].page = s.gains.entries[r].page

/-! ### Full reset, self-check, LEDs, readings and the console sample -/

/-- FULL_RESET reads the fuses and selects the first node state (R3, R4): identity valid needs the byte
sum 255 modulo 256, a role 1..6 and an address 0..6. Every block takes its full-reset values (R42,
R59, R75, R94, R113, R134, R156, R178, R189); the input levels and the queue stand, the handwheel
decoders start at some counts w, the console's button levels released and the uptime at 0 (the model's
choice, log entries 2, 3, 7 and 28), and the model's own ramp flag clear (log entry 15). -/
def Obligations.FullResetSetsEveryBlock : Prop :=
  ∀ (b0 b1 b2 b3 : Byte) (test : Bool) (s : State), ∃ (i : Identity) (w : Wheels),
    i.address = b0.extractLsb' 0 3 ∧ roleCode i.role = (b0.extractLsb' 3 3).toNat
    ∧ i.auth = b1 ++ b2 ∧ i.check = b3 ∧ i.testHigh = test
    ∧ (i.valid = true ↔
        (b0.toNat + b1.toNat + b2.toNat + b3.toNat) % 256 = 255
          ∧ 1 ≤ (b0.extractLsb' 3 3).toNat ∧ (b0.extractLsb' 3 3).toNat ≤ 6
          ∧ (b0.extractLsb' 0 3).toNat ≤ 6)
    ∧ exec (.fullReset b0 b1 b2 b3 test) s = .next
      { uptime := 0
        ident := i
        node :=
          { state := if test then .selfcheck else if i.valid then .setup else .unassigned
            homed := false, latch := false
            record := { first := none, causes := 0, later := 0, firstUptime := 0, enteredFrom := none }
            ignored := 0, holdExit := 0 }
        check := { test := 1, status := .running, expiries := 0, firstExpiry := 0, lastExpiry := 0
                   requests := 0, requestTime := 0, readingSeen := false }
        link := { slots := { stop := .empty, vehicle := .empty, aim := .empty, report := .empty
                             command := .empty, reply := .empty }
                  seqs := { stop := 0, vehicle := 0, aim := 0, report := 0, command := 0, reply := 0 }
                  health := .clean, errors := 0, successRun := 0, receptionRun := 0, txOk := 0
                  txError := 0, rxOk := 0, rxError := 0, superseded := 0, dropped := 0
                  activity := .idle, line := .unready }
        peers := { entries := Vector.replicate 7
                     { report := none, vehicle := none, aim := none, missed := 0, role := none }
                   partner := none, selVehicle := none, selAim := none }
        sensor := { timer := some 0, inFlight := none, lastValid := Axes.zero, misses := 0
                    bias := Axes.zero, run := none, settling := 0, biasRough := false
                    biasNone := false, count := 0, illegal := 0, homeRef := 0, indexArmed := false
                    prev := none, ring := [] }
        drive := { s.drive with enable := false, brake := true, lastCommand := 0, home := none
                                park := none }
        vref := { phi := Axes.zero, heading := 0, running := false, prevRaw := none
                  lastSpeed := none, speed := 0, roughSum := 0, candidate := none, debounce := 0
                  published := none, pending := none }
        corr := { split := 0, targetPrev := 0, commandPrev := 0, demandPrev := 0, strain := 0
                  sign := 0, loss := .tracking, offset := 0, reacquire := 0, rampHalted := false
                  held := { aim := Axes.zero, mode := .stab, beta := 0 } }
        gains := { entries := Vector.replicate 32 { present := false, page := 0, visited := false }
                   pages := Vector.replicate 8
                     { present := false, withdrawn := false, used := false, strained := false
                       gains := GainSet.zero }
                   regime := none, page := none, fromGains := GainSet.zero, toGains := GainSet.zero
                   blend := 64, pending := none }
        console := { counters := w, last := w, aim := Axes.zero, mode := .stab, engageLevel := false
                     parkLevel := false }
        setup := { phase := 1, items := Items.none, lastError := .none, authFailures := 0
                   committed := false }
        pins := s.pins, ledPhase := 0, choices := s.choices + 3, pending := s.pending }

/-- SELFCHECK (R5): a test that passes starts the next, a CONSOLE going from test 3 to 6; a test that
fails ends the sequence; test 6 passing ends it with all passed. By the model's reading (log entry 19)
test 3 ends at its hundredth expiry, test 4 starts with its first request and fails when a window of
1,000 µs with no valid reading has followed its third, and the findings of tests 2, 5 and 6 are
operands. An expiry counts toward test 3; a reply in time passes test 4 or has the next request made.
Nothing else changes. -/
def Obligations.SelfcheckTestsEndAsTheTableGives : Prop :=
  ∀ (f : SelfTestFindings) (now : Time) (s : State), s.node.state = .selfcheck →
    let c := s.check
    let windows := ((now - c.requestTime).toNat - 1) / 1000
    let ends (x : SelfCheck) : Host.Outcome State Fault Refusal :=
      .next { s with uptime := now, ledPhase := 0, check := x }
    let goesOn (x : SelfCheck) : Host.Outcome State Fault Refusal :=
      .next { s with uptime := now, check := x }
    let failed : SelfCheck := { c with status := .failed }
    (c.status = .running →
      (c.test = 1 → exec (.selfcheckTestEnd f now) s = ends
        (if s.ident.valid then { c with test := 2, expiries := 0 } else failed))
      ∧ (c.test = 2 → exec (.selfcheckTestEnd f now) s = ends
        (if f.ramOk then { c with test := 3, expiries := 0 } else failed))
      ∧ (c.test = 3 → c.expiries = 100 → exec (.selfcheckTestEnd f now) s = ends
        (if 98010 ≤ (c.lastExpiry - c.firstExpiry).toNat
            ∧ (c.lastExpiry - c.firstExpiry).toNat ≤ 99990 then
          if s.ident.role = .console then { c with test := 6, expiries := 0 }
          else { c with test := 4, expiries := 0, requests := 1, requestTime := now }
        else failed))
      ∧ (c.test = 3 → c.expiries ≠ 100 → exec (.selfcheckTestEnd f now) s = goesOn c)
      ∧ (c.test = 4 → c.readingSeen = true →
        exec (.selfcheckTestEnd f now) s = ends { c with test := 5, expiries := 0 })
      ∧ (c.test = 4 → c.readingSeen = false → 3 < c.requests + windows →
        exec (.selfcheckTestEnd f now) s = ends failed)
      ∧ (c.test = 4 → c.readingSeen = false → c.requests + windows ≤ 3 →
        exec (.selfcheckTestEnd f now) s = goesOn c)
      ∧ (c.test = 5 → exec (.selfcheckTestEnd f now) s = ends
        (if f.drivePlusOne = 1 ∧ f.driveMinusOne = -1 ∧ f.drivePlusMax = 32767
            ∧ f.driveMinusMax = -32767 then { c with test := 6, expiries := 0 } else failed))
      ∧ (c.test = 6 → exec (.selfcheckTestEnd f now) s = ends
        (if f.linkCheckOk = true ∧ f.linkSameContent = true then { c with status := .passed }
         else failed)))
    ∧ (c.status ≠ .running → exec (.selfcheckTestEnd f now) s = goesOn c)
    ∧ (∀ m, s.sensor.timer ≠ none → exec (.sampleTimerExpiry m now) s = goesOn
        (if c.status = .running ∧ c.test = 3 ∧ c.expiries < 100 then
          { c with expiries := c.expiries + 1, lastExpiry := now
                   firstExpiry := if c.expiries = 0 then now else c.firstExpiry }
        else c))
    ∧ ∀ r : SensorReply, r.abandoned = false → exec (.rateSensorReply r now) s = goesOn
        (if c.status = .running ∧ c.test = 4 ∧ c.readingSeen = false ∧ c.requests + windows ≤ 3 then
          if r.checkOk = true ∧ r.statusGood = true then { c with readingSeen := true }
          else { c with requests := c.requests + windows + 1, requestTime := now }
        else c)

/-- LED_PHASE_TIMER (R6, R7, R10): SELFCHECK shows the number of the test that runs or failed in binary,
steadily, and alternates all three LEDs on and off once all passed; SETUP and FAULT alternate all
three; a code display alternates the LEDs of the state code (LIVE: 1) with dark; UNASSIGNED lights
LED 1, 2, 3 in turn; ENGAGED stays lit and STANDBY dark. Nothing but the phase changes. -/
def Obligations.LedPhasesFollowTheDisplay : Prop :=
  ∀ s : State,
    (s.node.state = .selfcheck → s.check.status ≠ .passed →
      exec .ledPhaseTimer s = .next { s with ledPhase := 0 }
        ∧ (s.check.test ≤ 7 → 4 * (stateLeds s).led1.toNat + 2 * (stateLeds s).led2.toNat
            + (stateLeds s).led3.toNat = s.check.test))
    ∧ (s.node.state = .setup ∨ s.node.state = .fault
        ∨ (s.node.state = .selfcheck ∧ s.check.status = .passed) →
      (s.ledPhase = 0 → exec .ledPhaseTimer s = .next { s with ledPhase := 1 }
        ∧ stateLeds s = { led1 := true, led2 := true, led3 := true })
      ∧ (s.ledPhase = 1 → exec .ledPhaseTimer s = .next { s with ledPhase := 0 }
        ∧ stateLeds s = { led1 := false, led2 := false, led3 := false }))
    ∧ (s.node.state = .settling ∨ s.node.state = .idle ∨ s.node.state = .homing
        ∨ s.node.state = .parked ∨ s.node.state = .hold ∨ s.node.state = .parking
        ∨ s.node.state = .live →
      (s.ledPhase = 0 → exec .ledPhaseTimer s = .next { s with ledPhase := 1 }
        ∧ 4 * (stateLeds s).led1.toNat + 2 * (stateLeds s).led2.toNat + (stateLeds s).led3.toNat
            = stateCode s.node.state % 8)
      ∧ (s.ledPhase = 1 → exec .ledPhaseTimer s = .next { s with ledPhase := 0 }
        ∧ stateLeds s = { led1 := false, led2 := false, led3 := false }))
    ∧ (s.node.state = .unassigned →
      (s.ledPhase = 0 → exec .ledPhaseTimer s = .next { s with ledPhase := 1 }
        ∧ stateLeds s = { led1 := true, led2 := false, led3 := false })
      ∧ (s.ledPhase = 1 → exec .ledPhaseTimer s = .next { s with ledPhase := 2 }
        ∧ stateLeds s = { led1 := false, led2 := true, led3 := false })
      ∧ (s.ledPhase = 2 → exec .ledPhaseTimer s = .next { s with ledPhase := 0 }
        ∧ stateLeds s = { led1 := false, led2 := false, led3 := true }))
    ∧ (s.node.state = .engaged ∨ s.node.state = .standby →
      exec .ledPhaseTimer s = .next { s with ledPhase := 0 }
        ∧ (s.node.state = .engaged → stateLeds s = { led1 := true, led2 := true, led3 := true })
        ∧ (s.node.state = .standby → stateLeds s = { led1 := false, led2 := false, led3 := false }))

/-- SAMPLE_TIMER_EXPIRY and RATE_SENSOR_REPLY at a joint role (R60 to R63). With no request in flight an
expiry records one, with the uptime and the latched encoder count; with one, the abandoned or invalid
reading raises the miss count and keeps the last valid reading, and a valid one is saturated, taken
and ends the misses. A reply with no request in flight, and the rest of an abandoned one, is
discarded. SENSOR_MISS_LIMIT: a miss that leaves the count at 3 or more raises SENSOR in IDLE,
HOMING, PARKED, ENGAGED, HOLD, PARKING and FAULT (R14, R15). -/
def Obligations.ReadingsAreCountedAndTaken : Prop :=
  (∀ (r : SensorReply) (now : Time) (s : State),
    r.abandoned = true ∨ (s.sensor.inFlight = none ∧ s.node.state ≠ .selfcheck) →
    exec (.rateSensorReply r now) s = .next { s with uptime := now })
  ∧ (∀ (m : Bool) (now : Time) (s : State),
    isJoint s.ident.role = true → samples s.node.state = true → s.sensor.timer ≠ none →
    s.sensor.inFlight = none →
    exec (.sampleTimerExpiry m now) s = .next { s with
      uptime := now
      sensor := { s.sensor with inFlight := some { sampleTime := now, count := s.sensor.count } } })
  ∧ (∀ (q : Request) (now : Time) (s : State),
    isJoint s.ident.role = true → samples s.node.state = true → s.sensor.inFlight = some q →
    (∀ m, s.sensor.timer ≠ none → ∃ t, exec (.sampleTimerExpiry m now) s = .next t
      ∧ t.sensor.misses = min 255 (s.sensor.misses + 1) ∧ t.sensor.lastValid = s.sensor.lastValid
      ∧ t.sensor.inFlight = some { sampleTime := now, count := s.sensor.count }
      ∧ t.sensor.count = s.sensor.count ∧ t.setup = s.setup ∧ t.ident = s.ident)
    ∧ ∀ r : SensorReply, r.abandoned = false → ∃ t, exec (.rateSensorReply r now) s = .next t
      ∧ t.sensor.inFlight = none ∧ t.sensor.count = s.sensor.count ∧ t.setup = s.setup
      ∧ t.ident = s.ident
      ∧ (if r.checkOk = true ∧ r.statusGood = true then
          t.sensor.misses = 0
            ∧ t.sensor.lastValid =
                { yaw := max (-32767) (min 32767 r.yaw.toInt)
                  pitch := max (-32767) (min 32767 r.pitch.toInt)
                  roll := max (-32767) (min 32767 r.roll.toInt) }
        else t.sensor.misses = min 255 (s.sensor.misses + 1)
            ∧ t.sensor.lastValid = s.sensor.lastValid))
  ∧ ∀ (s : State) (q : Request) (tr : SampleTrigger) (now : Time),
    s.ends q tr → triggerValid tr = false → 2 ≤ s.sensor.misses →
    s.node.state ≠ .setup → s.node.state ≠ .settling →
    ∃ t, exec (.sensorMissLimit tr now) s = .next t ∧ t.node.state = .fault
      ∧ t.sensor.misses = min 255 (s.sensor.misses + 1) ∧ t.node.homed = s.node.homed
      ∧ t.drive.lastCommand = 0 ∧ t.setup = s.setup
      ∧ (s.node.state ≠ .fault → t.drive.enable = false ∧ t.drive.brake = true
          ∧ t.node.latch = false ∧ t.node.record = recordOf .sensor 64 now s.node.state)
      ∧ (s.node.state = .fault → t.node.record = { s.node.record with
          causes := s.node.record.causes ||| 64, later := min 255 (s.node.record.later + 1) })

/-- SAMPLE_TIMER_EXPIRY at a LIVE CONSOLE (R60, R171 to R174): the peer table is evaluated; the aim steps
by trunc(step count × scale / 16) on each axis, the step count saturated to ±127, yaw wrapped, pitch
and roll clamped to the aim limits; the counters become the last values, the mode follows the switch,
and the AIM slot is armed with the new aim. What armSlot does to a slot is ArmingFollowsTheSlot. -/
def Obligations.LiveConsoleSendsItsAim : Prop :=
  ∀ (m : Bool) (now : Time) (s : State),
    s.ident.role = .console → s.node.state = .live → s.sensor.timer ≠ none →
    let c := s.console
    let scales := consoleScales s.setup
    let limits := consoleLimits s.setup
    let n (a b : Half) : Int := max (-127) (min 127 (a - b).toInt)
    let p : Int := limits.pitchLimit
    let r : Int := limits.rollLimit
    let aim : Axes :=
      { yaw := Int.bmod (c.aim.yaw + Int.tdiv (n c.counters.yaw c.last.yaw * scales.yaw) 16) 65536
        pitch := max (-p) (min p
          (c.aim.pitch + Int.tdiv (n c.counters.pitch c.last.pitch * scales.pitch) 16))
        roll := max (-r) (min r
          (c.aim.roll + Int.tdiv (n c.counters.roll c.last.roll * scales.roll) 16)) }
    exec (.sampleTimerExpiry m now) s = .next { s with
      uptime := now
      peers := evaluatePeers .console now s.peers
      console := { c with aim := aim, last := c.counters, mode := if m then .rigid else .stab }
      link := armSlot .aim (fun seq =>
        { body := .aim { seq := seq, mode := if m then 1 else 0
                         yaw := BitVec.ofInt 16 aim.yaw, pitch := BitVec.ofInt 16 aim.pitch
                         roll := BitVec.ofInt 16 aim.roll
                         beta := BitVec.ofNat 16 limits.beta }
          sampleTime := now, effectTime := none }) s.link }

/-! ### The link: readiness, contention, transmission, health -/

/-- LINE_REST_SEEN and CONTEND (R27): a line not yet seen at rest becomes idle. With the link idle,
health CLEAN or NOISY and a slot ARMED, the ARMED slot of the lowest key (R22: class, then own
address) goes onto the line, no other slot changing; in MUTE, or with no slot ARMED, nothing happens.
CONTENTION_LOST (R27, R40): the slot returns to ARMED with its attempt count, or takes its successor
with attempt count 0 and the superseded count raised. CONTENTION_WIN (R28): a REPORT's or VEHICLE's
age is the win capture less its sample time, a VEHICLE's lead the effect time less the win capture (0
at or after it, and without pending present), each saturating at 65535; the frame then on the line
carries the own address, its length and its check (R22, R23). -/
def Obligations.ContentionTakesTheLowestKey : Prop :=
  (∀ s : State, s.node.state ≠ .selfcheck → s.node.state ≠ .standby → s.link.line = .unready →
    exec .lineRestSeen s = .next { s with link := { s.link with line := .idle } })
  ∧ (∀ s : State, contends s.node.state = true → s.link.line = .idle →
    ownFrameOnLine s.link = false →
    (s.link.health ≠ .mute → ∀ (k : SlotKind) (f : TxFrame) (n : Nat),
      slotAt s.link.slots k = .armed f n →
      (∀ j, isArmed (slotAt s.link.slots j) = true → (slotKey s k).toNat ≤ (slotKey s j).toNat) →
      ∃ t, exec .contend s = .next t
        ∧ slotAt t.link.slots k = .inFlight f n none
        ∧ (∀ j, j ≠ k → slotAt t.link.slots j = slotAt s.link.slots j)
        ∧ t = { s with link := { s.link with slots := t.link.slots, activity := .contending
                                             line := .busy } })
    ∧ (s.link.health = .mute ∨ (∀ j, isArmed (slotAt s.link.slots j) = false) →
      exec .contend s = .next s))
  ∧ ∀ (s : State) (k : SlotKind) (f : TxFrame) (n : Nat) (succ : Option TxFrame) (now : Time),
    s.link.activity = .contending → slotAt s.link.slots k = .inFlight f n succ →
    (∀ j, j ≠ k → isInFlight (slotAt s.link.slots j) = false) →
    let age : Half := BitVec.ofNat 16 (min 65535 (now - f.sampleTime).toNat)
    let lead (due : Time) : Half :=
      if (now - due).toNat < 2147483648 then 0
      else BitVec.ofNat 16 (min 65535 (due - now).toNat)
    let body : Body := match f.body with
      | .report p => .report { p with age := age }
      | .vehicle p => .vehicle { p with
          age := age
          lead := match p.pendingPresent, f.effectTime with
                  | true, some due => lead due
                  | _, _ => 0 }
      | b => b
    (∃ t, exec .contentionLost s = .next t
      ∧ slotAt t.link.slots k = (match succ with
          | none => .armed f n
          | some g => .armed g 0)
      ∧ (∀ j, j ≠ k → slotAt t.link.slots j = slotAt s.link.slots j)
      ∧ t = { s with link := { s.link with
          slots := t.link.slots, activity := .receiving
          superseded := s.link.superseded + (if succ.isSome then 1 else 0) } })
    ∧ ∃ t, exec (.contentionWin now) s = .next t
      ∧ slotAt t.link.slots k = .inFlight { f with body := body } n succ
      ∧ (∀ j, j ≠ k → slotAt t.link.slots j = slotAt s.link.slots j)
      ∧ t = { s with uptime := now
                     link := { s.link with slots := t.link.slots, activity := .sending } }
      ∧ ∃ raw, sentFrame t = some raw ∧ raw.key = kindClass body ++ s.ident.address
        ∧ raw.payload = payloadBytes body ∧ raw.length.toNat = classLength (kindClass body)
        ∧ raw.check = crc16 (checkedBits raw.key raw.length raw.payload)
        ∧ judgeFrame raw = some { src := s.ident.address, body := body }

/-- TRANSMISSION_SUCCESS and HEALTH_CLEAN_FROM_NOISY (R29, R32): tx ok rises, E becomes 0, the slot
takes its successor or empties; in NOISY the success run rises and at 8 health is CLEAN, the run, no
longer kept there, left at 0 by the model's choice (log entry 35). The second row runs that whole
success, by the model's reading of the table (log entry 10). -/
def Obligations.SuccessSettlesTheSlot : Prop :=
  ∀ (s : State) (k : SlotKind) (f : TxFrame) (n : Nat) (succ : Option TxFrame),
    s.link.activity = .sending → slotAt s.link.slots k = .inFlight f n succ →
    (∀ j, j ≠ k → isInFlight (slotAt s.link.slots j) = false) → s.judged →
    ∃ t, exec .transmissionSuccess s = .next t
      ∧ slotAt t.link.slots k = (match succ with
          | none => .empty
          | some g => .armed g 0)
      ∧ (∀ j, j ≠ k → slotAt t.link.slots j = slotAt s.link.slots j)
      ∧ t = { s with link := { s.link with
          slots := t.link.slots, txOk := s.link.txOk + 1, errors := 0, activity := .idle
          line := .idle
          health := if s.link.health = .noisy ∧ s.link.successRun = 7 then .clean else s.link.health
          successRun := if s.link.health = .noisy then
                          (if s.link.successRun = 7 then 0 else s.link.successRun + 1)
                        else s.link.successRun } }
      ∧ (s.link.health = .noisy → s.link.successRun = 7 →
          exec .healthCleanFromNoisy s = .next t)

/-- TRANSMIT_ERROR, HEALTH_NOISY and HEALTH_MUTE (R31 to R33, R160): the error counts rise; E at 4 moves
CLEAN to NOISY and E at 16 moves NOISY to MUTE, one step per error; the slot takes its successor, or
at the limit of the new health (3 in CLEAN, 1 else) drops its frame, or stays ARMED. A coarse node in
ENGAGED that has become MUTE is in HOLD, one in HOLD counts its exit from 0; with its hold causes
judged and no MUTE nothing else changes. The two named rows run that same error, by the model's
reading of the table (log entry 10). -/
def Obligations.TransmitErrorSettlesTheSlot : Prop :=
  ∀ (s : State) (k : SlotKind) (f : TxFrame) (n : Nat) (succ : Option TxFrame),
    slotAt s.link.slots k = .inFlight f n succ →
    (∀ j, j ≠ k → isInFlight (slotAt s.link.slots j) = false) →
    let e := min 255 (s.link.errors + 1)
    let health : Health := match s.link.health with
      | .clean => if 4 ≤ e then .noisy else .clean
      | .noisy => if 16 ≤ e then .mute else .noisy
      | .mute => .mute
    let limit := if health = .clean then 3 else 1
    ∃ t, exec .transmitError s = .next t
      ∧ t.link.txError = s.link.txError + 1 ∧ t.link.errors = e ∧ t.link.health = health
      ∧ (health = .noisy → t.link.successRun = 0)
      ∧ (s.link.health = .noisy → health = .mute → t.link.receptionRun = 0)
      ∧ slotAt t.link.slots k = (match succ with
          | some g => .armed g 0
          | none => if limit ≤ n + 1 then .empty else .armed f (n + 1))
      ∧ (∀ j, j ≠ k → slotAt t.link.slots j = slotAt s.link.slots j)
      ∧ t.link.superseded = s.link.superseded + (if succ.isSome then 1 else 0)
      ∧ t.link.dropped = s.link.dropped + (if succ = none ∧ limit ≤ n + 1 then 1 else 0)
      ∧ t.link.activity = .receiving ∧ t.link.txOk = s.link.txOk ∧ t.link.rxOk = s.link.rxOk
      ∧ t.link.rxError = s.link.rxError ∧ t.link.seqs = s.link.seqs ∧ t.link.line = s.link.line
      ∧ (isCoarse s.ident.role = true → health = .mute →
          (s.node.state = .engaged → t = ({ s with link := t.link } : State).holdEntered)
          ∧ (s.node.state = .hold → t = { s with
              link := t.link, node := { s.node with holdExit := 0 } }))
      ∧ (isCoarse s.ident.role = false ∨ (s.node.state ≠ .engaged ∧ s.node.state ≠ .hold)
            ∨ (s.judged ∧ health ≠ .mute) →
          t = { s with link := t.link })
      ∧ (s.link.health = .clean → health = .noisy → exec .healthNoisy s = .next t)
      ∧ (s.link.health = .noisy → health = .mute → exec .healthMute s = .next t)

/-- FRAME_MALFORMED (R34, R35): a frame is malformed exactly when the end, length or check test fails,
the bytes taken being as many as the length field gives; rx error rises, in MUTE the reception run is
0 again, the frame is discarded. Every valid frame raises rx ok (R34, R35), whatever the state does
with it; in MUTE it raises the reception run, and the 64th in a row restores CLEAN with E 0, the run left at 0 by
the model's choice (log entry 35).
HEALTH_CLEAN_FROM_MUTE runs that whole reception, by the model's reading (log entry 10). UNASSIGNED
counts and does nothing else (R7). FRAME_IGNORED (R37): a frame to another target or of a source with
no place is only counted. OWN_ADDRESS_FRAME (R38, R14, R15): ADDRESS_CLASH enters FAULT, or in FAULT
joins the set (the model's own ramp flag set by log entry 15, a CONSOLE's AIM and COMMAND slots emptied
by log entry 31). -/
def Obligations.ReceptionsAreCounted : Prop :=
  (∀ r : RawFrame, r.payload.length = r.length.toNat →
    (judgeFrame r = none ↔
      r.endOk = false ∨ r.length.toNat ≠ classLength (r.key.extractLsb' 3 3)
        ∨ r.check ≠ crc16 (checkedBits r.key r.length r.payload)))
  ∧ (∀ (s : State) (raw : RawFrame) (f : Frame) (capture now : Time),
    s.node.state ≠ .selfcheck → s.node.state ≠ .standby → s.link.line ≠ .unready →
    ownFrameOnLine s.link = false →
    (judgeFrame raw = none → exec (.frameMalformed raw capture now) s = .next { s with
      uptime := now
      link := { s.link with
        rxError := s.link.rxError + 1, activity := .idle, line := .idle
        receptionRun := if s.link.health = .mute then 0 else s.link.receptionRun } })
    ∧ ∃ t, exec (.frameIgnored f capture now) s = .next t
      ∧ t.link = { (s.heard now).link with slots := t.link.slots, seqs := t.link.seqs
                                           superseded := t.link.superseded }
      ∧ (s.node.state = .unassigned → t = s.heard now)
      ∧ (s.link.health = .mute → s.link.receptionRun = 63 →
          exec (.healthCleanFromMute f capture now) s = .next t))
  ∧ ∀ (s : State) (f : Frame) (capture now : Time), s.hearing →
    (f.src ≠ s.ident.address →
      (match f.body with
       | .stop _ => False
       | .vehicle _ | .aim _ | .report _ => f.src = 7
       | .command p => p.target.toNat ≠ s.ident.address.toNat ∧ p.target ≠ 15
       | .setup p => p.target.toNat ≠ s.ident.address.toNat
       | .query p => p.target.toNat ≠ s.ident.address.toNat
       | .reply _ => True) →
      exec (.frameIgnored f capture now) s = .next (s.heard now))
    ∧ (f.src = s.ident.address → s.node.state ≠ .fault → exec (.ownAddressFrame f capture now) s
      = .next ((s.heard now).faultEntered .addressClash 512))
    ∧ (f.src = s.ident.address → s.node.state = .fault → exec (.ownAddressFrame f capture now) s
      = .next ((s.heard now).causeJoined 512))

/-! ### Arrivals -/

/-- STOP_FRAME and STOP_INPUT_FALLING_EDGE (R92, R93, R12, R25): the latch is cleared; ENGAGED and HOLD
go to PARKING with a new park move, HOMING goes unhomed to IDLE with the drive stopped, a LIVE console
zeroes its aim with a resample, and the other states stay. The edge is acted on at a joint role in SETUP
and every state from SETTLING to FAULT, at a CONSOLE in LIVE and FAULT, and does nothing elsewhere; it
also arms the STOP slot, where EMPTY, with cause 1 and the next STOP sequence, and otherwise leaves it. -/
def Obligations.StopsActByTheState : Prop :=
  (∀ (s : State) (src : Addr) (p : StopPayload) (now : Time), s.hearing → src ≠ s.ident.address →
    exec (.stopFrame src p now) s = .next (s.heard now).stopped)
  ∧ ∀ (s : State) (now : Time),
    let joint : List NodeState := [.setup, .settling, .idle, .homing, .parked, .engaged, .hold,
      .parking, .fault]
    let acted : Prop := (s.ident.role ∈ [Role.base, .boom, .pan, .tilt, .roll] ∧ s.node.state ∈ joint)
      ∨ (s.ident.role = .console ∧ (s.node.state = .live ∨ s.node.state = .fault))
    (acted → s.link.slots.stop = .empty →
      exec (.stopInputFallingEdge now) s = .next ({ s with
        uptime := now
        link := { s.link with
          slots := { s.link.slots with
            stop := .armed { body := .stop { cause := 1, seq := s.link.seqs.stop }
                             sampleTime := 0, effectTime := none } 0 }
          seqs := { s.link.seqs with stop := s.link.seqs.stop + 1 } } } : State).stopped)
    ∧ (acted → s.link.slots.stop ≠ .empty →
      exec (.stopInputFallingEdge now) s = .next ({ s with uptime := now } : State).stopped)
    ∧ (¬ acted → exec (.stopInputFallingEdge now) s = .next { s with uptime := now })

/-- AIM_FRAME and VEHICLE_FRAME (R44, R45, R47): the frame is filed in its part of its source's entry
with its arrival capture, its age field (an AIM's taken as 0) and the freshness of its sample age,
and the gap raises the missed count. An AIM, and a VEHICLE at BASE or a CONSOLE, changes nothing
else. -/
def Obligations.AimAndVehicleFramesAreFiled : Prop :=
  ∀ (s : State) (a : Fin 7) (src : Addr) (capture now : Time), s.hearing →
    src.toNat = a.val → src ≠ s.ident.address →
    let e := s.peers.entries[a]
    let standing (age : Int) : Fresh :=
      if age < 5000 then .fresh else if age < 20000 then .stale else .lost
    (∀ p : AimPayload, exec (.aimFrame src p capture now) s = .next { s.heard now with
      peers := { s.peers with entries := s.peers.entries.set a { e with
        aim := some { content := p, capture := capture, age := 0, lastSeq := p.seq
                      fresh := standing (now - capture).toInt }
        missed := match e.aim with
          | none => e.missed
          | some q => min 65535 (e.missed + (p.seq - q.lastSeq - 1).toNat) } } })
    ∧ ∀ p : VehiclePayload,
      let filed : Peers := { s.peers with entries := s.peers.entries.set a { e with
        vehicle := some { content := p, capture := capture, age := p.age, lastSeq := p.seq
                          fresh := standing ((now - capture).toInt + (p.age.toNat : Int)) }
        missed := match e.vehicle with
          | none => e.missed
          | some q => min 65535 (e.missed + (p.seq - q.lastSeq - 1).toNat) } }
      ∃ t, exec (.vehicleFrame src p capture now) s = .next t ∧ t.peers = filed
        ∧ t.link = (s.heard now).link ∧ t.node = s.node ∧ t.drive = s.drive
        ∧ (s.ident.role = .base ∨ s.ident.role = .console → t = { s.heard now with peers := filed })

/-- VEHICLE_FRAME at the joints other than BASE (R148, R149, R151, R139). Filed LOST, or before the context
is established, or in a state in which the directory does not run, it leaves the gain directory as it
was. Otherwise an announced pending regime 0..31 becomes the local pending with effect time capture +
lead, unless the same regime already stands there; then a published regime 0..31 that differs from the
regime in use and is not the local pending's is switched to at once: the page chosen comes into use, an
equal page leaves the gains and their blend, another one starts from the effective gains (a blend from
k = 0 in ENGAGED, at once elsewhere) and clears the reversal flags and s (R143, R144, R146, R74). A
published byte outside 0..31 is not adopted. -/
def Obligations.VehicleFramesCarryTheRegime : Prop :=
  ∀ (s : State) (a : Fin 7) (src : Addr) (p : VehiclePayload) (capture now : Time),
    s.hearing → src.toNat = a.val → src ≠ s.ident.address →
    isJoint s.ident.role = true → s.ident.role ≠ .base →
    let age := (now - capture).toInt + (p.age.toNat : Int)
    ∃ t, exec (.vehicleFrame src p capture now) s = .next t
      ∧ (let u : State := { s.heard now with peers := t.peers }
        (s.gains.page = none ∨ directoryRuns s.node.state = false ∨ 20000 ≤ age → t = u)
        ∧ (s.gains.page.isSome = true → directoryRuns s.node.state = true → age < 20000 →
          let v : State := { u with gains := { s.gains with pending := t.gains.pending } }
          (p.pendingPresent = false → t.gains.pending = s.gains.pending)
          ∧ (∀ d : Regime, p.pendingPresent = true → p.pendingRegime = BitVec.ofNat 8 d.val →
              t.gains.pending = some (d, match s.gains.pending with
                | some (d', due) => if d' = d then due else capture + p.lead.setWidth 32
                | none => capture + p.lead.setWidth 32))
          ∧ (∀ r : Regime, p.regime = BitVec.ofNat 8 r.val →
              (s.gains.regime = some r ∨ (∃ due, t.gains.pending = some (r, due)) → t = v)
              ∧ (s.gains.regime ≠ some r → (∀ due, t.gains.pending ≠ some (r, due)) →
                  t = v.regimeSwitched r))
          ∧ (32 ≤ p.regime.toNat → t = v)))

/-- REPORT_FRAME (R44, R45, R47, R55, R58): the frame is filed in the report part with the role it
carries, the gap raises the missed count, the address is heard unless the part is LOST, and a joint
with the higher address raises ROLE_CLASH at a claim of its own role. Nothing else changes but by the
hold causes (R160, R162; a coarse node in ENGAGED or HOLD, which HoldCausesStopACoarseJoint gives) and,
at an entry to FAULT, the model's own ramp flag (log entry 15). -/
def Obligations.ReportFramesAreFiled : Prop :=
  ∀ (s : State) (a : Fin 7) (src : Addr) (p : ReportPayload) (capture now : Time), s.hearing →
    src.toNat = a.val → src ≠ s.ident.address →
    let e := s.peers.entries[a]
    let age := (now - capture).toInt + (p.age.toNat : Int)
    let standing : Fresh := if age < 5000 then .fresh else if age < 20000 then .stale else .lost
    let clash : Prop := isJoint s.ident.role = true ∧ p.role.toNat = roleCode s.ident.role
      ∧ a.val < s.ident.address.toNat
    ∃ t, exec (.reportFrame src p capture now) s = .next t
      ∧ t.peers.entries = s.peers.entries.set a { e with
          report := some { content := p, capture := capture, age := p.age, lastSeq := p.seq
                           fresh := standing }
          missed := match e.report with
            | none => e.missed
            | some q => min 65535 (e.missed + (p.seq - q.lastSeq - 1).toNat)
          role := some p.role }
      ∧ (standing ≠ .lost → hears t.peers a = true)
      ∧ t.link = (s.heard now).link ∧ t.setup = s.setup ∧ t.node.homed = s.node.homed
      ∧ (clash → s.node.state ≠ .fault → t.node.state = .fault
            ∧ t.node.record.first = some .roleClash ∧ t.node.record.causes = 256
            ∧ t.node.record.firstUptime = now ∧ t.drive = driveOff s.drive)
      ∧ (let u : State := { s.heard now with peers := t.peers }
        holdCause u = false ∨ (s.node.state ≠ .engaged ∧ s.node.state ≠ .hold) →
          (clash → s.node.state ≠ .fault → t = u.faultEntered .roleClash 256)
          ∧ (clash → s.node.state = .fault → t = u.causeJoined 256)
          ∧ (¬ clash → t = u))

/-- The partner address and the selections (R52, R56, R57). The role map gives, for a role 1..5 that is not
the own, the lowest address whose report part is FRESH or STALE and claims it; roles 0, 6 and 7 are not
mapped. At an own sample and at
a REPORT filed the partner address becomes what the map gives for the partner role (PAN for BASE,
BASE for PAN, TILT for BOOM, BOOM for TILT; none for ROLL), and stays where it gives none, but is
dropped where the partner itself reports another role. At an own sample the vehicle and the aim part
of the smallest sample age are selected, the lower address at a tie, none where all are ABSENT. -/
def Obligations.PartnersAndPartsAreSelected : Prop :=
  let age {α : Type} (t : Time) (p : PeerPart α) : Nat :=
    ((t - p.capture).toInt + (p.age.toNat : Int)).toNat
  let claims (p : Peers) (r : Role) (a : Fin 7) : Prop :=
    ∃ q, p.entries[a].report = some q ∧ q.fresh ≠ .lost ∧ q.content.role.toNat = roleCode r
  let selects {α : Type} (t : Time) (part : Fin 7 → Option (PeerPart α)) (x : Option (Fin 7)) : Prop :=
    (x = none ↔ ∀ a, part a = none)
    ∧ ∀ a, x = some a → ∃ p, part a = some p
        ∧ ∀ b q, part b = some q → age t p < age t q ∨ (age t p = age t q ∧ a ≤ b)
  (∀ (p : Peers) (own r : Role),
    (isJoint r = true → ∀ a : Fin 7,
      (roleMap p own r = some a ↔ r ≠ own ∧ claims p r a ∧ ∀ b < a, ¬ claims p r b))
    ∧ (isJoint r = false → roleMap p own r = none))
  ∧ (partnerRole .base = some .pan ∧ partnerRole .pan = some .base ∧ partnerRole .boom = some .tilt
      ∧ partnerRole .tilt = some .boom ∧ partnerRole .roll = none)
  ∧ (∀ (s : State) (q : Request) (tr : SampleTrigger) (now : Time), s.ends q tr →
    ∃ t, exec (eventOf tr now) s = .next t
      ∧ t.peers.partner = (match partnerRole s.ident.role with
          | none => s.peers.partner
          | some r => match roleMap t.peers s.ident.role r with
            | some a => some a
            | none => s.peers.partner)
      ∧ selects q.sampleTime (fun a => t.peers.entries[a].vehicle) t.peers.selVehicle
      ∧ selects q.sampleTime (fun a => t.peers.entries[a].aim) t.peers.selAim)
  ∧ ∀ (s : State) (a : Fin 7) (src : Addr) (p : ReportPayload) (capture now : Time), s.hearing →
    src.toNat = a.val → src ≠ s.ident.address →
    ∃ t, exec (.reportFrame src p capture now) s = .next t
      ∧ t.peers.selVehicle = s.peers.selVehicle ∧ t.peers.selAim = s.peers.selAim
      ∧ t.peers.partner = (match partnerRole s.ident.role with
          | none => s.peers.partner
          | some r => match roleMap t.peers s.ident.role r with
            | some b => some b
            | none => if s.peers.partner = some a ∧ p.role.toNat ≠ roleCode r then none
                      else s.peers.partner)

/-- The hold causes (R159): at BASE and BOOM, link health MUTE, or UNHEARD: the fine partner's report part
FRESH, in state 5, its hears set without the own address. A REPORT filed with one present moves
ENGAGED to HOLD (R160) and in HOLD sets the hold exit count to 0 (R162). At a sample the causes are
judged after the peer table's evaluation: ENGAGED is left for HOLD, whose rules form that sample, its
REPORT showing HOLD and command 0; in HOLD the exit count is 0 with a cause, one more without. -/
def Obligations.HoldCausesStopACoarseJoint : Prop :=
  (∀ s : State, holdCause s = true ↔
    (s.ident.role = .base ∨ s.ident.role = .boom)
    ∧ (s.link.health = .mute
      ∨ ∃ a p, s.peers.partner = some a ∧ s.peers.entries[a].report = some p ∧ p.fresh = .fresh
          ∧ p.content.state = 5 ∧ p.content.hears.getLsbD s.ident.address.toNat = false))
  ∧ (∀ (s : State) (a : Fin 7) (src : Addr) (p : ReportPayload) (capture now : Time), s.hearing →
    src.toNat = a.val → src ≠ s.ident.address →
    ¬ (p.role.toNat = roleCode s.ident.role ∧ a.val < s.ident.address.toNat) →
    ∃ t, exec (.reportFrame src p capture now) s = .next t
      ∧ (let u : State := { s.heard now with peers := t.peers }
        holdCause u = true →
          (s.node.state = .engaged → t = u.holdEntered)
          ∧ (s.node.state = .hold → t = { u with node := { s.node with holdExit := 0 } })))
  ∧ ∀ (s : State) (q : Request) (tr : SampleTrigger) (now : Time), s.ends q tr →
    triggerValid tr = true ∨ s.sensor.misses < 2 → anyTripped s = false →
    let cause := holdCause { s with peers := evaluatePeers s.ident.role q.sampleTime s.peers }
    (s.node.state = .engaged ∧ cause = true) ∨ (s.node.state = .hold ∧ s.node.holdExit < 49) →
    ∃ t, exec (eventOf tr now) s = .next t ∧ t.node.state = .hold
      ∧ t.node.holdExit = (if cause then 0 else s.node.holdExit + 1)
      ∧ t.drive.lastCommand = 0
      ∧ (s.node.state = .engaged → t.drive.enable = false ∧ t.drive.brake = true
          ∧ t.corr.commandPrev = 0 ∧ t.gains.blend = 64)
      ∧ (s.link.slots.report = .empty → ∃ p, t.link.slots.report =
          .armed { body := .report p, sampleTime := q.sampleTime, effectTime := none } 0
          ∧ p.state = 6 ∧ p.command = 0)

/-! ### Commands -/

/-- COMMAND_HOME in IDLE and PARKED (R82, R76, R11): the homed flag is false, HOMING is entered, the
index capture armed, and a home move starts in the home direction of G4. COMMAND_PARK (R91, R87, R76,
R145): ENGAGED and HOLD go to PARKING with a new park move from the last command sent, HOMING and
PARKING lose the engage latch. COMMAND_ENGAGE in PARKED (R157, R158, R161): ENGAGED with its entry
work where no hold cause stands, else HOLD at a coarse node; in HOMING and PARKING the engage latch is
set (R12). -/
def Obligations.HomeParkAndEngageMoveTheNode : Prop :=
  ∀ (s : State) (a : CommandArgs) (now : Time), s.hearing → s.addressed a →
    (isJoint s.ident.role = true → s.node.state = .idle ∨ s.node.state = .parked →
      exec (.commandHome a now) s = .next { s.heard now with
        node := { s.node with state := .homing, homed := false, holdExit := 0 }
        ledPhase := 0
        sensor := { s.sensor with indexArmed := true }
        drive := { s.drive with
          enable := true, brake := false, lastCommand := 0, park := none
          home := some { up := !(geoG4 s.setup).decreasing, reversals := 0, count := 0 } } })
    ∧ (s.node.state = .engaged →
      exec (.commandPark a now) s = .next { s.heard now with
        node := { s.node with state := .parking, holdExit := 0 }
        ledPhase := 0
        drive := { s.drive with enable := true, brake := false, home := none
                                park := some { count := 0, arrival := 0 } }
        corr := { s.corr with commandPrev := 0 }
        gains := { s.gains with blend := 64 } })
    ∧ (s.node.state = .hold →
      exec (.commandPark a now) s = .next { s.heard now with
        node := { s.node with state := .parking, holdExit := 0 }
        ledPhase := 0
        drive := { s.drive with enable := true, brake := false, lastCommand := 0, home := none
                                park := some { count := 0, arrival := 0 } } })
    ∧ (s.node.state = .homing ∨ s.node.state = .parking →
      exec (.commandPark a now) s = .next { s.heard now with
        node := { s.node with latch := false } }
      ∧ exec (.commandEngage a now) s = .next { s.heard now with
        node := { s.node with latch := true } })
    ∧ (s.node.state = .parked → holdCause (s.heard now) = false →
      exec (.commandEngage a now) s = .next { s.heard now with
        node := { s.node with state := .engaged, holdExit := 0 }
        ledPhase := 0
        sensor := { s.sensor with ring := s.sensor.ring.map (fun e => { e with reversal := false }) }
        drive := { s.drive with enable := true, brake := false, lastCommand := 0, home := none
                                park := none }
        corr := { s.corr with
          split := if isCoarse s.ident.role then lastAngle s else s.corr.split
          targetPrev := lastAngle s, commandPrev := 0, sign := 0, strain := 0 }
        gains := { s.gains with
          fromGains := GainSet.zero, blend := 0
          toGains := match s.gains.page with
            | some p => s.gains.pages[p].gains
            | none => s.gains.toGains } })
    ∧ (s.node.state = .parked → holdCause (s.heard now) = true →
      exec (.commandEngage a now) s = .next { s.heard now with
        node := { s.node with state := .hold, holdExit := 0 }
        ledPhase := 0
        drive := { s.drive with enable := false, brake := true, lastCommand := 0, home := none
                                park := none } })

/-- COMMAND_CLEAR in FAULT (R17, R18): the first row of the table that holds decides. A clash, or a
sensor or drive still faulty, refuses and counts; the exits empty the record and enter SETTLING, IDLE,
PARKING or PARKED, and nothing else changes. -/
def Obligations.ClearLeavesFaultByTheTable : Prop :=
  ∀ (s : State) (a : CommandArgs) (now : Time), s.hearing → s.addressed a → s.node.state = .fault →
    let holds (n : Nat) := s.node.record.causes.getLsbD n
    let row1 := holds 8 || holds 9
    let row2 := (holds 6 && s.sensor.misses != 0) || (holds 2 && s.drive.driveFault)
    let row3 := holds 6 || s.node.record.enteredFrom == some .settling
    let row4 := holds 5 || holds 4 || !s.node.homed
    let row5 := holds 1 || holds 3
    let cleared (st : NodeState) (homed : Bool) : State := { s.heard now with
      node := { s.node with
        state := st, homed := homed, holdExit := 0
        record := { first := none, causes := 0, later := 0, firstUptime := 0, enteredFrom := none } }
      ledPhase := 0
      drive := driveOff s.drive }
    exec (.commandClear a now) s = .next (
      if row1 || row2 then { s.heard now with
        node := { s.node with ignored := min 65535 (s.node.ignored + 1) } }
      else if row3 then { cleared .settling (s.node.homed && !holds 5) with
        sensor := { s.sensor with
          bias := Axes.zero, run := none, settling := 0, biasRough := false, biasNone := false }
        vref := { s.vref with running := false } }
      else if row4 then cleared .idle false
      else if row5 then { cleared .parking true with
        drive := { s.drive with enable := true, brake := false, lastCommand := 0, home := none
                                park := some { count := 0, arrival := 0 } } }
      else cleared .parked true)

/-- COMMAND_CLEAR_MARKS (R155): VISITED on the 32 entries, USED and STRAINED on the 8 pages are cleared,
and nothing else changes. COMMAND_STANDBY in IDLE and PARKED at a joint, and LIVE at a CONSOLE (R187):
with the fused code the slots empty uncounted, the timer stops, a request is given up, the latch is
cleared and STANDBY entered, and by the model's choice (log entry 37) what is not kept there, a CONSOLE's
aim (R170) and what else only the wake replaces, stands until the wake; with another code it is counted as
an auth failure. -/
def Obligations.ClearMarksAndStandbyAreTaken : Prop :=
  ∀ (s : State) (a : CommandArgs) (now : Time), s.hearing → s.addressed a →
    (isJoint s.ident.role = true → s.node.state ≠ .setup → s.node.state ≠ .live →
      exec (.commandClearMarks a now) s = .next { s.heard now with
        gains := { s.gains with
          entries := s.gains.entries.map (fun e => { e with visited := false })
          pages := s.gains.pages.map (fun p => { p with used := false, strained := false }) } })
    ∧ ((isJoint s.ident.role = true ∧ (s.node.state = .idle ∨ s.node.state = .parked))
        ∨ (s.ident.role = .console ∧ s.node.state = .live) →
      (a.auth = s.ident.auth → exec (.commandStandby a now) s = .next { s.heard now with
        node := { s.node with state := .standby, holdExit := 0, latch := false }
        ledPhase := 0
        drive := { s.drive with enable := false, brake := true, lastCommand := 0, home := none
                                park := none }
        sensor := { s.sensor with timer := none, inFlight := none }
        link := { (s.heard now).link with
          slots := { stop := .empty, vehicle := .empty, aim := .empty, report := .empty
                     command := .empty, reply := .empty } } })
      ∧ (a.auth ≠ s.ident.auth → exec (.commandStandby a now) s = .next { s.heard now with
        setup := { s.setup with authFailures := min 65535 (s.setup.authFailures + 1) } }))

/-- COMMAND_UNKNOWN_OP and the I entries of the command tables (R13): an op outside 1..6, and a command
that the state does not take, is counted as ignored and changes nothing else. -/
def Obligations.UntakenCommandsAreCounted : Prop :=
  ∀ (s : State) (a : CommandArgs) (now : Time), s.hearing → s.addressed a →
    let counted : Host.Outcome State Fault Refusal := .next { s.heard now with
      node := { s.node with ignored := min 65535 (s.node.ignored + 1) } }
    (∀ op : BitVec 4, op.toNat = 0 ∨ 6 < op.toNat → exec (.commandUnknownOp a op now) s = counted)
    ∧ (isJoint s.ident.role = true → s.node.state ≠ .live →
      (s.node.state ≠ .idle → s.node.state ≠ .parked →
        exec (.commandHome a now) s = counted ∧ exec (.commandStandby a now) s = counted)
      ∧ (s.node.state ≠ .parked → s.node.state ≠ .homing → s.node.state ≠ .parking →
        exec (.commandEngage a now) s = counted)
      ∧ (s.node.state ≠ .engaged → s.node.state ≠ .hold → s.node.state ≠ .homing →
          s.node.state ≠ .parking → exec (.commandPark a now) s = counted)
      ∧ (s.node.state ≠ .fault → exec (.commandClear a now) s = counted)
      ∧ (s.node.state = .setup → exec (.commandClearMarks a now) s = counted))
    ∧ (s.ident.role = .console →
        s.node.state = .setup ∨ s.node.state = .live ∨ s.node.state = .fault →
      exec (.commandHome a now) s = counted ∧ exec (.commandEngage a now) s = counted
      ∧ exec (.commandPark a now) s = counted ∧ exec (.commandClearMarks a now) s = counted
      ∧ (s.node.state ≠ .fault → exec (.commandClear a now) s = counted)
      ∧ (s.node.state ≠ .live → exec (.commandStandby a now) s = counted))

/-! ### Setup -/

/-- The SETUP rows in an open phase (R179 to R183, R195): an item of values in range is taken, its values
held, its phase the open one and the last error NONE: G1 to G5, PAGE_A, PAGE_B and DIRECTORY at a
joint, C1 and C2 at a CONSOLE, T1 to T3 at BASE. A G2 or G3 is checked against the other. A directory
value 0..7 names a page and 255 makes a gap. In the gain directory a page is present once both its items
are taken, with their gains, and the four entries of a row once it is taken, marks clear (R136), by the
model's reading already before COMMIT (log entry 27); nothing else of it changes. -/
def Obligations.ItemsInRangeAreTaken : Prop :=
  ∀ (s : State) (a : SetupArgs) (n m : Fin 8) (now : Time), s.hearing → s.tooled a →
    s.node.state = .setup →
    let took (ph : Nat) (i : Items) : Host.Outcome State Fault Refusal := .next { s.heard now with
      setup := { s.setup with items := i, phase := ph, lastError := .none } }
    let filled (ph : Nat) (i : Items) (g : GainDir) : Host.Outcome State Fault Refusal :=
      .next { s.heard now with
        setup := { s.setup with items := i, phase := ph, lastError := .none }, gains := g }
    let page (x : Option ItemPageA) (y : Option ItemPageB) : Page := match x, y with
      | some x, some y =>
        { present := true, withdrawn := false, used := false, strained := false
          gains := { kp := x.kp, kd := x.kd, lr := x.lr, la := x.la, alpha := y.alpha, rho := y.rho } }
      | _, _ =>
        { present := false, withdrawn := false, used := false, strained := false
          gains := { kp := 0, kd := 0, lr := 0, la := 0, alpha := 0, rho := 0 } }
    let entry (v : Half) : Option PageNo := if h : v.toNat < 8 then some ⟨v.toNat, h⟩ else none
    let i := s.setup.items
    (isJoint s.ident.role = true → s.setup.phase ≤ 1 →
      (1 ≤ a.v1.toNat → a.v2.toNat ≤ 1 →
        exec (.setupG1 a now) s = took 1 { i with
          g1 := some { scale := a.v1.toNat, negative := decide (a.v2.toNat = 1) } })
      ∧ (a.v3 = 1 ∨ (a.v3 = 0 ∧ a.v1.toInt < a.v2.toInt) →
        (∀ g, i.g3 = some g → a.v3 = 0 → a.v1.toInt ≤ g.park ∧ g.park ≤ a.v2.toInt) →
        exec (.setupG2 a now) s = took 1 { i with
          g2 := some { min := a.v1.toInt, max := a.v2.toInt, continuous := decide (a.v3 = 1) } })
      ∧ (a.v1.toNat ≤ 8192 →
        (∀ g, i.g2 = some g → g.continuous = false → g.min ≤ a.v2.toInt ∧ a.v2.toInt ≤ g.max) →
        exec (.setupG3 a now) s = took 1 { i with
          g3 := some { cushion := a.v1.toNat, park := a.v2.toInt } })
      ∧ (a.v2.toNat ≤ 1 → 1 ≤ a.v3.toNat → a.v3.toNat ≤ 4000 → 1 ≤ a.v4.toNat → a.v4.toNat ≤ 8000 →
        exec (.setupG4 a now) s = took 1 { i with
          g4 := some { homeAngle := a.v1.toInt, decreasing := decide (a.v2.toNat = 1)
                       homeRate := a.v3.toNat, parkRate := a.v4.toNat } })
      ∧ (1 ≤ a.v1.toNat → a.v1.toNat ≤ 1024 →
        exec (.setupG5 a now) s = took 1 { i with g5 := some a.v1.toNat }))
    ∧ (isJoint s.ident.role = true →
      (s.setup.phase ≤ 2 → a.v1.toNat ≤ 4095 → a.v2.toNat ≤ 1023 → a.v3.toNat ≤ 32767 →
          1 ≤ a.v4.toNat → a.v4.toNat ≤ 4096 →
        let x : ItemPageA := { kp := a.v1.toNat, kd := a.v2.toNat, lr := a.v3.toNat, la := a.v4.toNat }
        exec (.setupPageA n a now) s = filled 2 { i with pageA := i.pageA.set n (some x) }
          { s.gains with pages := s.gains.pages.set n (page (some x) i.pageB[n]) })
      ∧ (s.setup.phase ≤ 2 → a.v2.toNat ≤ 255 →
        let y : ItemPageB := { alpha := a.v1.toNat, rho := a.v2.toNat }
        exec (.setupPageB n a now) s = filled 2 { i with pageB := i.pageB.set n (some y) }
          { s.gains with pages := s.gains.pages.set n (page i.pageA[n] (some y)) })
      ∧ (s.setup.phase ≤ 3 → (a.v1.toNat < 8 ∨ a.v1.toNat = 255) →
          (a.v2.toNat < 8 ∨ a.v2.toNat = 255) → (a.v3.toNat < 8 ∨ a.v3.toNat = 255) →
          (a.v4.toNat < 8 ∨ a.v4.toNat = 255) →
        let row (k : Nat) : DirEntry := match entry ([a.v1, a.v2, a.v3].getD k a.v4) with
          | some p => { present := true, page := p, visited := false }
          | none => { present := false, page := 0, visited := false }
        exec (.setupDirectory m a now) s = filled 3 { i with
            dir := i.dir.set m
              (some { d0 := entry a.v1, d1 := entry a.v2, d2 := entry a.v3, d3 := entry a.v4 }) }
          { s.gains with entries := Vector.ofFn (fun r : Fin 32 =>
              if r.val / 4 = m.val then row (r.val % 4) else s.gains.entries[r]) }))
    ∧ (s.ident.role = .console → s.setup.phase ≤ 1 →
      exec (.setupC1 a now) s = took 1 { i with
        c1 := some { yaw := a.v1.toInt, pitch := a.v2.toInt, roll := a.v3.toInt } }
      ∧ (a.v1.toNat ≤ 16384 → a.v2.toNat ≤ 16384 →
        exec (.setupC2 a now) s = took 1 { i with
          c2 := some { pitchLimit := a.v1.toNat, rollLimit := a.v2.toNat, beta := a.v3.toNat } }))
    ∧ (s.ident.role = .base → s.setup.phase ≤ 4 →
      (1 ≤ a.v1.toNat → a.v2.toNat ≤ 1000 → a.v3.toNat ≤ 1000 → a.v4.toNat ≤ 1000 →
        exec (.setupT1 a now) s = took 4 { i with
          t1 := some { pulse := a.v1.toNat, s1 := a.v2.toNat, s2 := a.v3.toNat, s3 := a.v4.toNat } })
      ∧ (a.v1.toNat ≤ 1000 → a.v2.toNat ≤ 1000 → a.v3.toNat ≤ 1000 → a.v4.toNat ≤ 1000 →
        exec (.setupT2 a now) s = took 4 { i with
          t2 := some { s4 := a.v1.toNat, s5 := a.v2.toNat, s6 := a.v3.toNat, s7 := a.v4.toNat } })
      ∧ exec (.setupT3 a now) s = took 4 { i with
          t3 := some { r1 := a.v1.toNat, r2 := a.v2.toNat, r3 := a.v3.toNat } })

/-- The refusals of a SETUP frame (R179 to R182): outside SETUP every item is refused with STATE and
counted as ignored; with another code every item is refused with AUTH and counted as an auth failure;
an unknown item, and one the role has not, with ROLE; one of a phase closed, with SEQUENCE; a value out
of range, with RANGE, a window of a limited joint that leaves out the park angle among them, at G2
against a G3 held and at G3 against a G2 held. Nothing else changes. -/
def Obligations.SetupRefusalsKeepTheItems : Prop :=
  ∀ (s : State) (a : SetupArgs) (code : Byte) (n m : Fin 8) (now : Time), s.hearing →
    a.src ≠ s.ident.address → a.target.toNat = s.ident.address.toNat →
    let geometry : List Instr := [.setupG1 a now, .setupG2 a now, .setupG3 a now, .setupG4 a now,
      .setupG5 a now]
    let pages : List Instr := [.setupPageA n a now, .setupPageB n a now]
    let console : List Instr := [.setupC1 a now, .setupC2 a now]
    let thresholds : List Instr := [.setupT1 a now, .setupT2 a now, .setupT3 a now]
    let refused (e : SetupError) : Host.Outcome State Fault Refusal := .next { s.heard now with
      setup := { s.setup with lastError := e } }
    let joint := isJoint s.ident.role
    (s.node.state ≠ .setup →
      ∀ i ∈ geometry ++ pages ++ console ++ thresholds
          ++ [.setupDirectory m a now, .setupUnknownItem code a now, .commit a now],
        exec i s = .next { s.heard now with
          node := { s.node with ignored := min 65535 (s.node.ignored + 1) }
          setup := { s.setup with lastError := .state } })
    ∧ (s.node.state = .setup → a.auth ≠ s.ident.auth →
      ∀ i ∈ geometry ++ pages ++ console ++ thresholds
          ++ [.setupDirectory m a now, .setupUnknownItem code a now, .commit a now],
        exec i s = .next { s.heard now with
          setup := { s.setup with lastError := .auth
                                  authFailures := min 65535 (s.setup.authFailures + 1) } })
    ∧ (s.node.state = .setup → a.auth = s.ident.auth →
      (itemOfCode code = none → exec (.setupUnknownItem code a now) s = refused .role)
      ∧ (joint = false → ∀ i ∈ geometry ++ pages ++ [.setupDirectory m a now], exec i s = refused .role)
      ∧ (s.ident.role ≠ .console → ∀ i ∈ console, exec i s = refused .role)
      ∧ (s.ident.role ≠ .base → ∀ i ∈ thresholds, exec i s = refused .role)
      ∧ (joint = true → 1 < s.setup.phase → ∀ i ∈ geometry, exec i s = refused .sequence)
      ∧ (joint = true → 2 < s.setup.phase → ∀ i ∈ pages, exec i s = refused .sequence)
      ∧ (joint = true → 3 < s.setup.phase → exec (.setupDirectory m a now) s = refused .sequence)
      ∧ (s.ident.role = .console → 1 < s.setup.phase → ∀ i ∈ console, exec i s = refused .sequence)
      ∧ (joint = true → s.setup.phase ≤ 1 →
        (a.v1 = 0 ∨ 1 < a.v2.toNat → exec (.setupG1 a now) s = refused .range)
        ∧ (1 < a.v3.toNat ∨ (a.v3 = 0 ∧ a.v2.toInt ≤ a.v1.toInt) →
          exec (.setupG2 a now) s = refused .range)
        ∧ (∀ g, s.setup.items.g3 = some g → a.v3 = 0 →
            g.park < a.v1.toInt ∨ a.v2.toInt < g.park → exec (.setupG2 a now) s = refused .range)
        ∧ (8192 < a.v1.toNat → exec (.setupG3 a now) s = refused .range)
        ∧ (∀ g, s.setup.items.g2 = some g → g.continuous = false →
            a.v2.toInt < g.min ∨ g.max < a.v2.toInt → exec (.setupG3 a now) s = refused .range)
        ∧ (1 < a.v2.toNat ∨ a.v3 = 0 ∨ 4000 < a.v3.toNat ∨ a.v4 = 0 ∨ 8000 < a.v4.toNat →
          exec (.setupG4 a now) s = refused .range)
        ∧ (a.v1 = 0 ∨ 1024 < a.v1.toNat → exec (.setupG5 a now) s = refused .range))
      ∧ (s.ident.role = .console → s.setup.phase ≤ 1 → 16384 < a.v1.toNat ∨ 16384 < a.v2.toNat →
        exec (.setupC2 a now) s = refused .range)
      ∧ (joint = true → s.setup.phase ≤ 2 →
        (4095 < a.v1.toNat ∨ 1023 < a.v2.toNat ∨ 32767 < a.v3.toNat ∨ a.v4 = 0 ∨ 4096 < a.v4.toNat →
          exec (.setupPageA n a now) s = refused .range)
        ∧ (255 < a.v2.toNat → exec (.setupPageB n a now) s = refused .range))
      ∧ (joint = true → s.setup.phase ≤ 3 → (∃ v ∈ [a.v1, a.v2, a.v3, a.v4],
          7 < v.toNat ∧ v.toNat ≠ 255) → exec (.setupDirectory m a now) s = refused .range)
      ∧ (s.ident.role = .base → s.setup.phase ≤ 4 →
        (a.v1 = 0 ∨ 1000 < a.v2.toNat ∨ 1000 < a.v3.toNat ∨ 1000 < a.v4.toNat →
          exec (.setupT1 a now) s = refused .range)
        ∧ (1000 < a.v1.toNat ∨ 1000 < a.v2.toNat ∨ 1000 < a.v3.toNat ∨ 1000 < a.v4.toNat →
          exec (.setupT2 a now) s = refused .range)))

/-- COMMIT (R184, R181, R136, R140). INCOMPLETE: an item of the role's GEOMETRY is not taken, or page 0
lacks a half at a joint, or a page has exactly one half, or BASE lacks T1, T2 or T3. ORDER: at BASE the
seven speed thresholds or the three roughness thresholds do not rise strictly. A failed check opens
phase 1 again and keeps everything taken. At a joint role success establishes the context on page 0
with the tables filled, a page or entry never given absent, and enters SETTLING; at a CONSOLE it
enters LIVE with a zero aim. -/
def Obligations.CommitPutsTheSetupInUse : Prop :=
  ∀ (s : State) (a : SetupArgs) (now : Time), s.hearing → s.tooled a → s.node.state = .setup →
    let i := s.setup.items
    let joint := isJoint s.ident.role = true
    let whole : Prop :=
      (joint → i.g1.isSome ∧ i.g2.isSome ∧ i.g3.isSome ∧ i.g4.isSome ∧ i.g5.isSome
        ∧ i.pageA[(0 : PageNo)].isSome ∧ i.pageB[(0 : PageNo)].isSome)
      ∧ (s.ident.role = .console → i.c1.isSome ∧ i.c2.isSome)
      ∧ (∀ p : PageNo, i.pageA[p].isSome = i.pageB[p].isSome)
      ∧ (s.ident.role = .base → i.t1.isSome ∧ i.t2.isSome ∧ i.t3.isSome)
    let rising : Prop := s.ident.role = .base → ∀ x y z, i.t1 = some x → i.t2 = some y →
      i.t3 = some z → x.s1 < x.s2 ∧ x.s2 < x.s3 ∧ x.s3 < y.s4 ∧ y.s4 < y.s5 ∧ y.s5 < y.s6
        ∧ y.s6 < y.s7 ∧ z.r1 < z.r2 ∧ z.r2 < z.r3
    joint ∨ s.ident.role = .console →
    (¬ whole → exec (.commit a now) s = .next { s.heard now with
        setup := { s.setup with lastError := .incomplete, phase := 1 } })
    ∧ (whole → ¬ rising → exec (.commit a now) s = .next { s.heard now with
        setup := { s.setup with lastError := .order, phase := 1 } })
    ∧ (joint → whole → rising →
      ∃ t, exec (.commit a now) s = .next t
        ∧ t = { s.heard now with
            setup := { s.setup with lastError := .none, committed := true }
            node := { s.node with state := .settling, holdExit := 0 }
            ledPhase := 0
            gains := t.gains
            sensor := { s.sensor with bias := Axes.zero, run := none, settling := 0
                                      biasRough := false, biasNone := false }
            drive := driveOff s.drive
            vref := { s.vref with running := false } }
        ∧ t.gains.page = some 0 ∧ t.gains.regime = none ∧ t.gains.blend = 64
        ∧ t.gains.pending = none ∧ t.gains.fromGains = t.gains.pages[(0 : PageNo)].gains
        ∧ t.gains.toGains = t.gains.pages[(0 : PageNo)].gains
        ∧ (∀ p : PageNo, t.gains.pages[p].used = false ∧ t.gains.pages[p].strained = false
            ∧ t.gains.pages[p].withdrawn = false
            ∧ t.gains.pages[p].present = (i.pageA[p].isSome && i.pageB[p].isSome)
            ∧ ∀ x y, i.pageA[p] = some x → i.pageB[p] = some y →
                t.gains.pages[p].gains = { kp := x.kp, kd := x.kd, lr := x.lr, la := x.la
                                           alpha := y.alpha, rho := y.rho })
        ∧ ∀ (m : Fin 8) (j : Fin 4),
            let named : Option PageNo := i.dir[m].bind (fun d =>
              if j = 0 then d.d0 else if j = 1 then d.d1 else if j = 2 then d.d2 else d.d3)
            t.gains.entries[4 * m.val + j.val] =
              match named with
              | some n => { present := true, page := n, visited := false }
              | none => { present := false, page := 0, visited := false })
    ∧ (s.ident.role = .console → whole →
      exec (.commit a now) s = .next { s.heard now with
        setup := { s.setup with lastError := .none, committed := true }
        node := { s.node with state := .live, holdExit := 0 }
        ledPhase := 0
        drive := { s.drive with enable := false, brake := true, lastCommand := 0, home := none
                                park := none }
        console := { s.console with
          aim := Axes.zero, last := s.console.counters
          engageLevel := s.pins.engagePressed, parkLevel := s.pins.parkPressed } })

/-! ### Queries and arming -/

/-- QUERY_IDENTITY, QUERY_NODE (part 0), QUERY_LINK, QUERY_PEER_SUMMARY, QUERY_PEER, QUERY_SETUP and
QUERY_UNKNOWN_ITEM at every role (R185, R186, R192, R194, R196): the REPLY slot is armed with the
item's values, written out here, and status 0. A part an item has not, NODE part 1 at a CONSOLE, and
an unknown item are answered with status 1 and values 0, item and low part bits echoed. Nothing but
the link changes; what armSlot does to a slot is ArmingFollowsTheSlot, roleMap is
PartnersAndPartsAreSelected. -/
def Obligations.StationItemsAreAnswered : Prop :=
  ∀ (s : State) (a : QueryArgs) (now : Time), s.hearing → s.asked a →
    let h := s.heard now
    let zero : ReplyValues :=
      { v0 := 0, v1 := 0, v2 := 0, v3 := 0, v4 := 0, v5 := 0, v6 := 0, v7 := 0 }
    let answer (item : BitVec 5) (status : Bool) (v : ReplyValues) :
        Host.Outcome State Fault Refusal := .next { h with
      link := armSlot .reply (fun seq =>
        { body := .reply { item := item, status := status, part := a.part.extractLsb' 0 2, seq := seq
                           values := v }
          sampleTime := 0, effectTime := none }) h.link }
    let pair (hi lo : Nat) : Half := BitVec.ofNat 8 hi ++ BitVec.ofNat 8 lo
    let word (l : List Bool) : Nat := l.foldr (fun b n => b.toNat + 2 * n) 0
    let code (x : NodeState) : Nat := match x with
      | .setup => 0 | .settling => 1 | .idle => 2 | .homing => 3 | .parked => 4 | .engaged => 5
      | .hold => 6 | .parking => 7 | .fault => 8 | .live => 9
      | .selfcheck | .unassigned | .standby => 15
    let cause (x : Option Cause) : Nat := match x with
      | none => 0 | some .endStop => 1 | some .drive => 2 | some .moveTimeout => 3
      | some .homeFail => 4 | some .encoder => 5 | some .sensor => 6 | some .unstable => 7
      | some .roleClash => 8 | some .addressClash => 9
    let error (x : SetupError) : Nat := match x with
      | .none => 0 | .auth => 1 | .state => 2 | .role => 3 | .sequence => 4 | .range => 5
      | .incomplete => 6 | .order => 7
    let health (x : Health) : Nat := match x with
      | .clean => 0 | .noisy => 1 | .mute => 2
    let fresh (x : Option Fresh) : Nat := match x with
      | none => 0 | some .fresh => 1 | some .stale => 2 | some .lost => 3
    let holds (k : SlotKind) : Bool := slotAt s.link.slots k != .empty
    let current (e : PeerEntry) : Bool :=
      [e.report.map (·.fresh), e.vehicle.map (·.fresh), e.aim.map (·.fresh)].any
        (fun f => f == some .fresh || f == some .stale)
    let e (n : Fin 7) : PeerEntry := s.peers.entries[n]
    let own (n : Fin 7) : PeerEntry :=
      if s.ident.address.toNat = n.val then
        { report := none, vehicle := none, aim := none, missed := 0, role := none }
      else e n
    let nibble (x : Option (Fin 7)) : BitVec 4 := match x with
      | none => 15
      | some n => BitVec.ofNat 4 n.val
    let byte (x : Option (Fin 7)) : Nat := match x with
      | none => 255
      | some n => n.val
    let age {α : Type} (p : Option (PeerPart α)) : Half := match p with
      | none => 0
      | some p => BitVec.ofNat 16 (min 65535 ((now - p.capture).toInt + (p.age.toNat : Int)).toNat)
    let head {α : Type} (p : Option (PeerPart α)) : Half :=
      pair (fresh (p.map (·.fresh))) (match p with
        | none => 0
        | some p => p.lastSeq.toNat)
    let map (r : Role) : BitVec 4 := nibble (roleMap s.peers s.ident.role r)
    let joint := isJoint s.ident.role
    let i := s.setup.items
    (a.part = 0 →
      exec (.queryIdentity a now) s = answer 1 false
        { v0 := BitVec.ofNat 16 s.ident.address.toNat, v1 := BitVec.ofNat 16 (roleCode s.ident.role)
          v2 := s.ident.auth, v3 := BitVec.ofNat 16 s.ident.check.toNat
          v4 := if s.ident.valid then 1 else 0, v5 := if s.ident.testHigh then 1 else 0
          v6 := now.extractLsb' 16 16, v7 := now.extractLsb' 0 16 }
      ∧ exec (.queryNode a now) s = answer 2 false
        { v0 := pair (code s.node.state) (match s.node.record.enteredFrom with
            | none => 15
            | some x => code x)
          v1 := BitVec.ofNat 16 (word [joint && s.node.homed, s.node.latch,
            joint && s.drive.minTripped, joint && s.drive.maxTripped, joint && s.drive.driveFault])
          v2 := BitVec.ofNat 16 s.node.ignored
          v3 := pair (cause s.node.record.first) s.node.record.later
          v4 := s.node.record.causes
          v5 := s.node.record.firstUptime.extractLsb' 16 16
          v6 := s.node.record.firstUptime.extractLsb' 0 16
          v7 := if joint then BitVec.ofInt 16 s.drive.lastCommand else 0 }
      ∧ exec (.queryLink a now) s = answer 3 false
        { v0 := pair (64 * health h.link.health + word [holds .stop, holds .vehicle, holds .aim,
            holds .report, holds .command, holds .reply]) h.link.errors
          v1 := pair h.link.successRun h.link.receptionRun
          v2 := s.link.txOk, v3 := s.link.txError, v4 := s.link.rxOk + 1, v5 := s.link.rxError
          v6 := s.link.superseded, v7 := s.link.dropped }
      ∧ exec (.queryPeerSummary a now) s = answer 4 false { zero with
          v0 := BitVec.ofNat 16 (word [current (e 0), current (e 1), current (e 2), current (e 3),
            current (e 4), current (e 5), current (e 6)])
          v1 := map .base ++ map .boom ++ map .pan ++ map .tilt
          v2 := map .roll ++ nibble s.peers.partner ++ BitVec.ofNat 4 (match s.peers.partner with
            | none => 0
            | some n => fresh ((e n).report.map (·.fresh))) ++ 0#4
          v3 := pair (byte s.peers.selVehicle) (byte s.peers.selAim) }
      ∧ (∀ n : Fin 7, exec (.queryPeer n a now) s = answer (BitVec.ofNat 5 (5 + n.val)) false
        { v0 := head (own n).report, v1 := age (own n).report
          v2 := head (own n).vehicle, v3 := age (own n).vehicle
          v4 := head (own n).aim, v5 := age (own n).aim
          v6 := BitVec.ofNat 16 (own n).missed
          v7 := pair (match (own n).role with
                      | none => 255
                      | some r => r.toNat)
                     (match (own n).report with
                      | none => 255
                      | some p => p.content.state.toNat) })
      ∧ exec (.querySetup a now) s = answer 16 false { zero with
          v0 := pair s.setup.phase (error s.setup.lastError)
          v1 := BitVec.ofNat 16 s.setup.authFailures
          v2 := if s.setup.committed then 1 else 0
          v3 := BitVec.ofNat 16 (word [i.g1.isSome, i.g2.isSome, i.g3.isSome, i.g4.isSome,
            i.g5.isSome, i.c1.isSome, i.c2.isSome, false, i.t1.isSome, i.t2.isSome, i.t3.isSome])
          v4 := BitVec.ofNat 16 (word [i.pageA[0].isSome, i.pageB[0].isSome, i.pageA[1].isSome,
            i.pageB[1].isSome, i.pageA[2].isSome, i.pageB[2].isSome, i.pageA[3].isSome,
            i.pageB[3].isSome, i.pageA[4].isSome, i.pageB[4].isSome, i.pageA[5].isSome,
            i.pageB[5].isSome, i.pageA[6].isSome, i.pageB[6].isSome, i.pageA[7].isSome,
            i.pageB[7].isSome])
          v5 := BitVec.ofNat 16 (word [i.dir[0].isSome, i.dir[1].isSome, i.dir[2].isSome,
            i.dir[3].isSome, i.dir[4].isSome, i.dir[5].isSome, i.dir[6].isSome, i.dir[7].isSome]) })
    ∧ (a.part ≠ 0 →
      exec (.queryIdentity a now) s = answer 1 true zero
      ∧ exec (.queryLink a now) s = answer 3 true zero
      ∧ exec (.queryPeerSummary a now) s = answer 4 true zero
      ∧ (∀ n : Fin 7, exec (.queryPeer n a now) s
          = answer (BitVec.ofNat 5 (5 + n.val)) true zero)
      ∧ exec (.querySetup a now) s = answer 16 true zero)
    ∧ (2 ≤ a.part.toNat ∨ (a.part = 1 ∧ joint = false) →
        exec (.queryNode a now) s = answer 2 true zero)
    ∧ (∀ item : BitVec 5, item = 0 ∨ 16 < item.toNat →
        exec (.queryUnknownItem item a now) s = answer item true zero)

/-- QUERY_NODE (part 1), QUERY_DIRECTORY_MARKS, QUERY_PAGE_MARKS, QUERY_WORKING_CONTEXT and QUERY_BIAS
(R185, R186, R192, R194, R196): at a joint the REPLY slot is armed with the item's values, written out
here, and status 0; a part beyond the item's, and each of these items at another role, is answered
with status 1 and values 0. Nothing but the link changes. By the model's choice the bits of a pending
regime and its time remaining are 0 with none pending (log entry 29). -/
def Obligations.JointItemsAreAnswered : Prop :=
  ∀ (s : State) (a : QueryArgs) (now : Time), s.hearing → s.asked a →
    let h := s.heard now
    let zero : ReplyValues :=
      { v0 := 0, v1 := 0, v2 := 0, v3 := 0, v4 := 0, v5 := 0, v6 := 0, v7 := 0 }
    let answer (item : BitVec 5) (status : Bool) (v : ReplyValues) :
        Host.Outcome State Fault Refusal := .next { h with
      link := armSlot .reply (fun seq =>
        { body := .reply { item := item, status := status, part := a.part.extractLsb' 0 2, seq := seq
                           values := v }
          sampleTime := 0, effectTime := none }) h.link }
    let pair (hi lo : Nat) : Half := BitVec.ofNat 8 hi ++ BitVec.ofNat 8 lo
    let b (r : Regime) : Nat :=
      let e := s.gains.entries[r]
      (if e.present then 128 else 0) + (if e.visited then 64 else 0) + e.page.val
    let marks (p : PageNo) : Half :=
      let g := s.gains.pages[p]
      BitVec.ofNat 16 ((if g.present then 1 else 0) + (if g.withdrawn then 2 else 0)
        + (if g.used then 4 else 0) + (if g.strained then 8 else 0))
    let g := s.gains
    let at' (x y : Int) : Int := x + Int.tdiv ((y - x) * g.blend) 64
    let pending := if s.ident.role = .base then s.vref.pending else g.pending
    (isJoint s.ident.role = true →
      (a.part = 1 → exec (.queryNode a now) s = answer 2 false
        { v0 := BitVec.ofNat 16 (match s.drive.home, s.drive.park with
            | some m, _ => m.count
            | none, some m => m.count
            | none, none => 0)
          v1 := match s.drive.home with
            | some m => pair (if m.up then 1 else 2) m.reversals
            | none => 0
          v2 := match s.drive.park with
            | some m => BitVec.ofNat 16 m.arrival
            | none => 0
          v3 := if s.node.state = .hold then BitVec.ofNat 16 s.node.holdExit else 0
          v4 := pair (match s.corr.loss with
            | .tracking => 0
            | .frozen => 1
            | .reacquiring => 2) s.corr.reacquire
          v5 := BitVec.ofInt 16 s.corr.offset
          v6 := BitVec.ofInt 16 s.corr.demandPrev
          v7 := 0 })
      ∧ (a.part = 0 → exec (.queryDirectoryMarks a now) s = answer 12 false
        { v0 := pair (b 0) (b 1), v1 := pair (b 2) (b 3), v2 := pair (b 4) (b 5)
          v3 := pair (b 6) (b 7), v4 := pair (b 8) (b 9), v5 := pair (b 10) (b 11)
          v6 := pair (b 12) (b 13), v7 := pair (b 14) (b 15) })
      ∧ (a.part = 1 → exec (.queryDirectoryMarks a now) s = answer 12 false
        { v0 := pair (b 16) (b 17), v1 := pair (b 18) (b 19), v2 := pair (b 20) (b 21)
          v3 := pair (b 22) (b 23), v4 := pair (b 24) (b 25), v5 := pair (b 26) (b 27)
          v6 := pair (b 28) (b 29), v7 := pair (b 30) (b 31) })
      ∧ (a.part = 0 → exec (.queryPageMarks a now) s = answer 13 false
        { v0 := marks 0, v1 := marks 1, v2 := marks 2, v3 := marks 3, v4 := marks 4, v5 := marks 5
          v6 := marks 6, v7 := marks 7 })
      ∧ (a.part = 0 → exec (.queryWorkingContext a now) s = answer 14 false
        { v0 := (match g.regime with
            | none => 255#8
            | some r => BitVec.ofNat 8 r.val) ++ BitVec.ofInt 8 (at' g.fromGains.rho g.toGains.rho)
          v1 := pair g.blend (match g.page with
            | none => 255
            | some p => p.val)
          v2 := match pending with
            | none => 0
            | some (_, due) =>
              if (now - due).toNat < 2147483648 then 0
              else BitVec.ofNat 16 (min 65535 (due - now).toNat)
          v3 := BitVec.ofInt 16 (at' g.fromGains.kp g.toGains.kp)
          v4 := BitVec.ofBool pending.isSome ++ (match pending with
            | none => 0#5
            | some (r, _) => BitVec.ofNat 5 r.val) ++ BitVec.ofInt 10 (at' g.fromGains.kd g.toGains.kd)
          v5 := BitVec.ofInt 16 (at' g.fromGains.lr g.toGains.lr)
          v6 := BitVec.ofBool (decide (g.blend < 64)) ++ 0#2
            ++ BitVec.ofInt 13 (at' g.fromGains.la g.toGains.la)
          v7 := BitVec.ofInt 16 (at' g.fromGains.alpha g.toGains.alpha) })
      ∧ (a.part = 0 → exec (.queryBias a now) s = answer 15 false
        { v0 := BitVec.ofInt 16 s.sensor.bias.yaw, v1 := BitVec.ofInt 16 s.sensor.bias.pitch
          v2 := BitVec.ofInt 16 s.sensor.bias.roll, v3 := BitVec.ofInt 16 s.sensor.lastValid.yaw
          v4 := BitVec.ofInt 16 s.sensor.lastValid.pitch
          v5 := BitVec.ofInt 16 s.sensor.lastValid.roll
          v6 := pair s.sensor.misses
            ((if s.sensor.biasRough then 1 else 0) + (if s.sensor.biasNone then 2 else 0))
          v7 := match s.sensor.run with
            | none => 0
            | some x => BitVec.ofNat 16 x.n })
      ∧ (a.part = 1 → exec (.queryBias a now) s = answer 15 false
        { v0 := BitVec.ofNat 16 s.sensor.settling
          v1 := if s.setup.committed then BitVec.ofNat 16 (s.setup.items.g5.getD 0) else 0
          v2 := s.sensor.count.extractLsb' 16 16, v3 := s.sensor.count.extractLsb' 0 16
          v4 := s.sensor.homeRef.extractLsb' 16 16, v5 := s.sensor.homeRef.extractLsb' 0 16
          v6 := BitVec.ofNat 16 s.sensor.illegal, v7 := 0 }))
    ∧ (isJoint s.ident.role = false ∨ 2 ≤ a.part.toNat →
        exec (.queryDirectoryMarks a now) s = answer 12 true zero
        ∧ exec (.queryBias a now) s = answer 15 true zero)
    ∧ (isJoint s.ident.role = false ∨ a.part ≠ 0 →
        exec (.queryPageMarks a now) s = answer 13 true zero
        ∧ exec (.queryWorkingContext a now) s = answer 14 true zero)

/-- Arming a slot other than STOP (R24, R26): an EMPTY slot becomes ARMED with attempt count 0; an ARMED
one takes the newer frame, the old one superseded; one in flight takes it as its successor, an older
successor superseded. The frame carries the next sequence number of its kind; the frame on the line
and the other slots stand. -/
def Obligations.ArmingFollowsTheSlot : Prop :=
  ∀ (k : SlotKind) (f : Byte → TxFrame) (l : Link), k ≠ .stop →
    let new := f (seqAt l.seqs k)
    let t := armSlot k f l
    seqAt t.seqs k = seqAt l.seqs k + 1
    ∧ (∀ j, j ≠ k → slotAt t.slots j = slotAt l.slots j ∧ seqAt t.seqs j = seqAt l.seqs j)
    ∧ (slotAt l.slots k = .empty →
        slotAt t.slots k = .armed new 0 ∧ t.superseded = l.superseded)
    ∧ (∀ g n, slotAt l.slots k = .armed g n →
        slotAt t.slots k = .armed new 0 ∧ t.superseded = l.superseded + 1)
    ∧ (∀ g n, slotAt l.slots k = .inFlight g n none →
        slotAt t.slots k = .inFlight g n (some new) ∧ t.superseded = l.superseded)
    ∧ (∀ g n x, slotAt l.slots k = .inFlight g n (some x) →
        slotAt t.slots k = .inFlight g n (some new) ∧ t.superseded = l.superseded + 1)

/-! ### Pins -/

/-- WAKE_PIN_FALLING_EDGE and LINE_START_WAKE in STANDBY (R188, R21, R42, R59, R75, R113, R134, R156,
R177): the blocks take their wake values in the one event, with the encoder, the homed flag, the
ignored count, the tables and the setup kept; a joint enters SETTLING, a CONSOLE enters LIVE.
Elsewhere the pin does nothing. Elsewhere the line start, by the model's reading (log entry 18), is a
start condition seen on the idle line: a node with an ARMED slot contends (R27), any other that
receives shows receiving (R40), the line busy, so that a slot armed before the first key bit waits for the
next idle, by the model's choice (log entry 32). A node that joins shows contending from the start condition
on, not from its first key bit, by the model's choice (log entry 36). On a line not yet seen at rest the start condition changes
nothing, the pins included, by the model's choice (log entry 33). -/
def Obligations.WakeTakesTheWakeValues : Prop :=
  (∀ (s : State) (now : Time) (i : Instr), s.node.state = .standby →
    i = .wakePinFallingEdge now ∨ i = .lineStartWake now →
    ∃ t, exec i s = .next t ∧ t.uptime = now ∧ t.ident = s.ident ∧ t.setup = s.setup
      ∧ t.link = Link.reset ∧ t.peers = Peers.reset ∧ t.ledPhase = 0 ∧ t.check = s.check
      ∧ t.pins = s.pins ∧ t.pending = s.pending
      ∧ t.vref = VehicleRef.reset ∧ t.corr = Correction.reset
      ∧ t.node = { s.node with
          state := if s.ident.role = .console then .live else .settling
          latch := false, holdExit := 0
          record := { first := none, causes := 0, later := 0, firstUptime := 0, enteredFrom := none } }
      ∧ t.sensor = { s.sensor with
          timer := some now, inFlight := none, lastValid := Axes.zero, misses := 0
          bias := Axes.zero, run := none, settling := 0, biasRough := false, biasNone := false
          indexArmed := false, prev := none, ring := [] }
      ∧ t.drive = { s.drive with enable := false, brake := true, lastCommand := 0, home := none
                                 park := none }
      ∧ (s.ident.role ≠ .console → t.gains = { s.gains with
          page := some 0, regime := none, fromGains := s.gains.pages[(0 : PageNo)].gains
          toGains := s.gains.pages[(0 : PageNo)].gains, blend := 64, pending := none })
      ∧ (s.ident.role = .console → t.gains = s.gains ∧ t.console.aim = Axes.zero ∧ t.console.mode = .stab
          ∧ t.console.last = t.console.counters ∧ t.console.engageLevel = s.pins.engagePressed
          ∧ t.console.parkLevel = s.pins.parkPressed))
  ∧ ∀ (s : State) (now : Time), s.node.state ≠ .standby →
    let u : State := { s with uptime := now }
    exec (.wakePinFallingEdge now) s = .next u
    ∧ (s.node.state = .selfcheck ∨ s.link.line ≠ .idle ∨ ownFrameOnLine s.link = true →
        exec (.lineStartWake now) s = .next u)
    ∧ (s.node.state ≠ .selfcheck → s.link.line = .idle → ownFrameOnLine s.link = false →
      let joins : Prop := contends s.node.state = true ∧ s.link.health ≠ .mute
        ∧ ∃ k, isArmed (slotAt s.link.slots k) = true
      (joins → ∃ t, exec .contend u = .next t ∧ exec (.lineStartWake now) s = .next t
        ∧ t.link.activity = .contending)
      ∧ (¬ joins → exec (.lineStartWake now) s = .next { u with
          link := { s.link with activity := .receiving, line := .busy } }))

/-- ENCODER_STEP at a joint (R69): the count rises by 1 where line A leads line B and falls by 1
elsewhere; by the model's reading (log entry 12), A leads where A leaves B's level or B comes to A's.
ILLEGAL_TRANSITION (R69): the illegal count rises and the encoder count stands; unhomed nothing else
changes, homed it raises ENCODER. INDEX_PULSE (R70, R72, R85, R87): with the capture armed in HOMING the
count becomes the home reference, the homed flag is true, PARKING is entered, and the first sample after
it has rate 0, whatever the new reference; disarmed it is ignored. An entry to FAULT sets the model's own ramp flag (log entry 15). -/
def Obligations.EncoderEventsCount : Prop :=
  ∀ (s : State) (now : Time), s.ident.role ≠ .console →
    exec (.encoderStep .a) s = .next { s with
      sensor := { s.sensor with
        count := s.sensor.count + (if s.pins.encoder.a = s.pins.encoder.b then 1 else -1) }
      pins := { s.pins with encoder := { s.pins.encoder with a := !s.pins.encoder.a } } }
    ∧ exec (.encoderStep .b) s = .next { s with
      sensor := { s.sensor with
        count := s.sensor.count + (if s.pins.encoder.a = s.pins.encoder.b then -1 else 1) }
      pins := { s.pins with encoder := { s.pins.encoder with b := !s.pins.encoder.b } } }
    ∧ (let u : State := { s with
        uptime := now
        sensor := { s.sensor with illegal := min 65535 (s.sensor.illegal + 1) }
        pins := { s.pins with encoder := { a := !s.pins.encoder.a, b := !s.pins.encoder.b } } }
      (s.node.homed = false ∨ samples s.node.state = false →
        exec (.illegalTransition now) s = .next u)
      ∧ (s.node.homed = true → samples s.node.state = true → s.node.state ≠ .fault →
        exec (.illegalTransition now) s = .next (u.faultEntered .encoder 32))
      ∧ (s.node.homed = true → s.node.state = .fault →
        exec (.illegalTransition now) s = .next (u.causeJoined 32)))
    ∧ (s.sensor.indexArmed = true → s.node.state = .homing →
      exec .indexPulse s = .next { s with
        sensor := { s.sensor with
          homeRef := s.sensor.count, indexArmed := false
          prev := s.sensor.prev.map (fun p => { p with homed := false }) }
        node := { s.node with state := .parking, homed := true, holdExit := 0 }
        ledPhase := 0
        drive := { s.drive with enable := true, brake := false, home := none
                                park := some { count := 0, arrival := 0 } } }
      ∧ ∀ (u : State) (q : Request) (valid : Bool),
          u.sensor.prev = s.sensor.prev.map (fun p => { p with homed := false }) →
          (formSample q valid u).rate = 0)
    ∧ (s.sensor.indexArmed = false → exec .indexPulse s = .next s)

/-- END_SWITCH_TRIP and END_SWITCH_CLEAR (R79 to R81, R84): the level is recorded; at a limited joint a
trip raises END_STOP in ENGAGED and HOLD, and in PARKING where the last command points toward it; in
HOMING the leading switch reverses a first search and raises HOME_FAIL on a second; elsewhere nothing
else happens. DRIVE_FAULT_ASSERT and DRIVE_FAULT_RELEASE (R78): the level is recorded; the asserting
edge raises DRIVE in HOMING, PARKING and ENGAGED and nothing elsewhere. An entry to FAULT sets the
model's own ramp flag (log entry 15). -/
def Obligations.DriveInputsActByTheState : Prop :=
  ∀ (s : State) (e : EndSwitch) (now : Time), s.ident.role ≠ .console →
    let levels (d : Drive) (x : Bool) : Drive :=
      { d with minTripped := if e = .min then x else d.minTripped
               maxTripped := if e = .max then x else d.maxTripped }
    let toward : Prop := if e = .max then 0 < s.drive.lastCommand else s.drive.lastCommand < 0
    let leads (m : HomeMove) : Prop := m.up = true ↔ e = .max
    let tripped : State := { s with uptime := now, drive := levels s.drive true }
    let faulty : State := { s with uptime := now, drive := { s.drive with driveFault := true } }
    exec (.endSwitchClear e) s = .next { s with drive := levels s.drive false }
    ∧ ((if e = .min then s.drive.minTripped else s.drive.maxTripped) = false →
      (isLimited s.setup = true →
        s.node.state = .engaged ∨ s.node.state = .hold ∨ (s.node.state = .parking ∧ toward) →
        exec (.endSwitchTrip e now) s = .next (tripped.faultEntered .endStop 2))
      ∧ (∀ m, isLimited s.setup = true → s.node.state = .homing → s.drive.home = some m → leads m →
        (m.reversals = 0 → exec (.endSwitchTrip e now) s = .next { tripped with
          drive := { tripped.drive with
            home := some { up := !m.up, reversals := 1, count := m.count } } })
        ∧ (m.reversals ≠ 0 →
          exec (.endSwitchTrip e now) s = .next (tripped.faultEntered .homeFail 16)))
      ∧ (isLimited s.setup = false
          ∨ (s.node.state ≠ .engaged ∧ s.node.state ≠ .hold ∧ s.node.state ≠ .homing
              ∧ (s.node.state = .parking → ¬ toward))
          ∨ (s.node.state = .homing ∧ ∀ m, s.drive.home = some m → ¬ leads m) →
        exec (.endSwitchTrip e now) s = .next tripped))
    ∧ exec .driveFaultRelease s = .next { s with drive := { s.drive with driveFault := false } }
    ∧ (s.drive.driveFault = false →
        s.node.state = .homing ∨ s.node.state = .parking ∨ s.node.state = .engaged →
      exec (.driveFaultAssert now) s = .next (faulty.faultEntered .drive 4))
    ∧ (s.drive.driveFault = false → s.node.state ≠ .homing → s.node.state ≠ .parking →
        s.node.state ≠ .engaged →
      exec (.driveFaultAssert now) s = .next faulty)

/-- SPEED_EDGE at BASE (R104): with a last capture held, the speed is trunc(pulse distance × 10000 / p)
saturated to 0..1000, a period of 0 giving 1000; the capture becomes the last. -/
def Obligations.SpeedEdgesGiveTheSpeed : Prop :=
  ∀ (s : State) (now : Time), s.ident.role = .base →
    regimeRuns s.setup.committed s.node.state = true →
    exec (.speedEdge now) s = .next { s with
      uptime := now
      vref := { s.vref with
        lastSpeed := some now
        speed := match s.vref.lastSpeed with
          | none => s.vref.speed
          | some c =>
            if (now - c).toNat = 0 then 1000
            else min 1000 ((thresholdsT1 s.setup).pulse * 10000 / (now - c).toNat) } }

/-- HANDWHEEL_STEP at a CONSOLE not in STANDBY (R171): one line of a wheel changing moves its counter by
1, up where A leads B by the reading of log entry 12; both lines changing leave the counters.
ENGAGE_BUTTON_PRESS, PARK_BUTTON_PRESS and BUTTON_RELEASE in LIVE (R175, R176): a press from released
arms a COMMAND to target 15, op 2 or 3, auth 0; PARK also zeroes the aim with a resample; a release
only records the level. Outside LIVE a press only moves the input's level. -/
def Obligations.HandwheelsAndButtonsAct : Prop :=
  ∀ s : State, s.ident.role = .console →
    let armed (op : BitVec 4) : Link := armSlot .command (fun seq =>
      { body := .command { target := 15, op := op, seq := seq, auth := 0 }
        sampleTime := 0, effectTime := none }) s.link
    (s.node.state ≠ .standby →
      (∀ (w : Wheel) (l : QuadLine),
        let q := match w with
          | .yaw => s.pins.wheelYaw
          | .pitch => s.pins.wheelPitch
          | .roll => s.pins.wheelRoll
        let d : Half := if (q.a = q.b) = (l = .a) then 1 else -1
        let q' : QuadLevels := { a := if l = .a then !q.a else q.a, b := if l = .b then !q.b else q.b }
        let k := s.console.counters
        exec (.handwheelStep w (.one l)) s = .next (match w with
          | .yaw => { s with console := { s.console with counters := { k with yaw := k.yaw + d } }
                             pins := { s.pins with wheelYaw := q' } }
          | .pitch => { s with console := { s.console with counters := { k with pitch := k.pitch + d } }
                               pins := { s.pins with wheelPitch := q' } }
          | .roll => { s with console := { s.console with counters := { k with roll := k.roll + d } }
                              pins := { s.pins with wheelRoll := q' } }))
      ∧ ∀ w, ∃ t, exec (.handwheelStep w .both) s = .next t
          ∧ t = { s with pins := t.pins })
    ∧ (s.node.state = .live →
      (s.console.engageLevel = false →
        exec .engageButtonPress s = .next { s with
          pins := { s.pins with engagePressed := true }
          console := { s.console with engageLevel := true }
          link := armed 2 })
      ∧ (s.console.parkLevel = false →
        exec .parkButtonPress s = .next { s with
          pins := { s.pins with parkPressed := true }
          console := { s.console with parkLevel := true, aim := Axes.zero, last := s.console.counters }
          link := armed 3 })
      ∧ exec (.buttonRelease .engage) s = .next { s with
          pins := { s.pins with engagePressed := false }
          console := { s.console with engageLevel := false } }
      ∧ exec (.buttonRelease .park) s = .next { s with
          pins := { s.pins with parkPressed := false }
          console := { s.console with parkLevel := false } })
    ∧ (s.node.state ≠ .live →
      exec .engageButtonPress s = .next { s with pins := { s.pins with engagePressed := true } }
      ∧ exec .parkButtonPress s = .next { s with pins := { s.pins with parkPressed := true } })

/-! ### What a sample brings. A row that names an outcome of a sample runs the event that delivers it, by
the model's reading of the table (log entry 10). -/

/-- The frame of the events that deliver a sample and of the rows a sample brings about (R60, R62): the
identity, setup, console, input levels and queue stand, as do the encoder, the homed flag and ignored
count, the drive inputs, the link's health, counts and the slots but for REPORT and VEHICLE, what the
peer table holds but for freshness, partner and selection, and the tables of the gain directory but
for their marks. -/
def Obligations.SamplesKeepTheirFrame : Prop :=
  ∀ (s t : State) (q : Request) (tr : SampleTrigger) (now : Time) (i : Instr), s.ends q tr →
    i ∈ [.biasCaptureEnd tr now, .settlingTimeout tr now, .sensorMissLimit tr now,
      .homeTimeout tr now, .moveTimeout tr now, .parkArrival tr now, .holdExit tr now,
      .regimeAnnounce tr now, .regimeEffect tr now, .localPendingDue tr now, .speedTimeout tr now,
      .partFreshnessAging tr now, .blendComplete tr now, .reacquireComplete tr now,
      .strainMark tr now, .reversalLimit tr now]
      ∨ (∃ m, tr = .expiry m ∧ i = .sampleTimerExpiry m now)
      ∨ (∃ r, tr = .reply r ∧ i = .rateSensorReply r now) →
    exec i s = .next t →
    (t = s ∨ t.uptime = now) ∧ t.ident = s.ident ∧ t.check = s.check ∧ t.setup = s.setup
    ∧ t.console = s.console ∧ t.pins = s.pins ∧ t.pending = s.pending
    ∧ t.node.homed = s.node.homed ∧ t.node.ignored = s.node.ignored
    ∧ t.sensor.timer = s.sensor.timer ∧ t.sensor.count = s.sensor.count
    ∧ t.sensor.illegal = s.sensor.illegal ∧ t.sensor.homeRef = s.sensor.homeRef
    ∧ t.drive.minTripped = s.drive.minTripped ∧ t.drive.maxTripped = s.drive.maxTripped
    ∧ t.drive.driveFault = s.drive.driveFault
    ∧ t.link = { s.link with
        slots := { s.link.slots with report := t.link.slots.report, vehicle := t.link.slots.vehicle }
        seqs := { s.link.seqs with report := t.link.seqs.report, vehicle := t.link.seqs.vehicle }
        superseded := t.link.superseded }
    ∧ (∀ a : Fin 7, t.peers.entries[a].missed = s.peers.entries[a].missed
        ∧ t.peers.entries[a].role = s.peers.entries[a].role
        ∧ t.peers.entries[a].report.map (·.content) = s.peers.entries[a].report.map (·.content)
        ∧ t.peers.entries[a].vehicle.map (·.content) = s.peers.entries[a].vehicle.map (·.content)
        ∧ t.peers.entries[a].aim.map (·.content) = s.peers.entries[a].aim.map (·.content))
    ∧ (∀ p : PageNo, t.gains.pages[p].present = s.gains.pages[p].present
        ∧ t.gains.pages[p].gains = s.gains.pages[p].gains)
    ∧ ∀ r : Regime, t.gains.entries[r].present = s.gains.entries[r].present
        ∧ t.gains.entries[r].page = s.gains.entries[r].page

/-- The joint angle and rate of a sample and what its REPORT makes of them (R71, R72, R119, R131, R133).
With the homed flag true the angle is the home angle plus sign × round((c − c_index) × scale / 4096),
rounded half away from zero, wrapped at a continuous and saturated at a limited joint, otherwise 0;
the rate is 64 times the change since the sample before, 0 where that one was unhomed or before an index
capture (R85), had another home reference, or is none. The REPORT carries the state as it is armed, the hears set (R55), page,
ramping bit and regime in use, the first cause in FAULT, and from SETTLING on both with the centre
offset, the last command and the flags IN_CUSHION, AT_MIN, AT_MAX, STRAIN, BIAS_ROUGH, BIAS_NONE,
RAMPING and HOMED (R132); in SETUP, and in a FAULT with no commit made, these are 0. The last command is
the one standing at the end of the sample: 0 where a fault cause was raised (R131's Note) and, by the
model's reading (log entry 16), where a park move arrived in PARKED or HOLD. A sample that ends HOLD is
reported in HOLD, before the entry to ENGAGED. -/
def Obligations.SamplesFormAngleRateAndOffset : Prop :=
  ∀ (s : State) (q : Request) (tr : SampleTrigger) (now : Time), s.ends q tr →
    let g1 := geoG1 s.setup
    let g2 := geoG2 s.setup
    let g3 := geoG3 s.setup
    let limited := !g2.continuous
    let wrap (x : Int) : Int := Int.bmod x 65536
    let sat (x : Int) : Int := max (-32767) (min 32767 x)
    let turns : Int := (q.count - s.sensor.homeRef).toInt * (g1.scale : Int)
    let rounded : Int :=
      if 0 ≤ turns then Int.fdiv (2 * turns + 4096) 8192 else -Int.fdiv (4096 - 2 * turns) 8192
    let x : Int := (geoG4 s.setup).homeAngle + (if g1.negative then -rounded else rounded)
    let angle : Int :=
      if s.node.homed then (if limited then max (-32768) (min 32767 x) else wrap x) else 0
    let rate : Int := match s.sensor.prev with
      | none => 0
      | some p =>
        if s.node.homed = true ∧ p.homed = true ∧ p.homeRef = s.sensor.homeRef then
          sat ((if limited then angle - p.angle else wrap (angle - p.angle)) * 64)
        else 0
    let offset : Int :=
      if s.node.homed then
        (if limited then sat (angle - Int.fdiv (g2.min + g2.max) 2) else wrap (angle - g3.park))
      else 0
    let u := s.atDelivery q tr now
    let w := s.takenUp q tr now
    let aimed := (aimSample u.node.state q.sampleTime w).1
    let heardIn (x : PeerEntry) : Prop :=
      (∃ y, x.report = some y ∧ y.fresh ≠ .lost) ∨ (∃ y, x.vehicle = some y ∧ y.fresh ≠ .lost)
        ∨ ∃ y, x.aim = some y ∧ y.fresh ≠ .lost
    (s.sampleFor q tr now).angle = angle ∧ (s.sampleFor q tr now).rate = rate
    ∧ ∃ t, exec (eventOf tr now) s = .next t
      ∧ t.sensor.prev = some { angle := angle, homed := s.node.homed, homeRef := s.sensor.homeRef }
      ∧ (s.link.slots.report = .empty → ∃ p, t.link.slots.report =
          .armed { body := .report p, sampleTime := q.sampleTime, effectTime := none } 0
          ∧ p.seq = s.link.seqs.report ∧ p.role = BitVec.ofNat 4 (roleCode s.ident.role)
          ∧ p.state = BitVec.ofNat 4
              (if u.node.state = .hold ∧ t.node.state = .engaged then 6 else stateCode t.node.state)
          ∧ (∀ a : Fin 7, p.hears.getLsbD a.val = true ↔ heardIn t.peers.entries[a])
          ∧ p.page = BitVec.ofNat 3 (t.gains.page.getD 0).val
          ∧ p.ramping = decide ((if u.node.state = .hold then w else t).gains.blend < 64)
          ∧ p.regime = (match t.gains.regime with
              | some r => BitVec.ofNat 8 r.val
              | none => 255)
          ∧ (t.node.state ≠ .fault → p.cause = 0)
          ∧ (t.node.state = .fault → p.cause = (match t.node.record.first with
              | none => 0
              | some .endStop => 1
              | some .drive => 2
              | some .moveTimeout => 3
              | some .homeFail => 4
              | some .encoder => 5
              | some .sensor => 6
              | some .unstable => 7
              | some .roleClash => 8
              | some .addressClash => 9))
          ∧ (s.setup.committed = true → s.node.state ≠ .setup →
            p.angle = BitVec.ofInt 16 angle ∧ p.rate = BitVec.ofInt 16 rate
            ∧ p.offset = BitVec.ofInt 16 offset
            ∧ (p.flags.getLsbD 0 = true ↔ s.node.homed = true ∧ limited = true
                ∧ (angle < g2.min + (g3.cushion : Int) ∨ g2.max - (g3.cushion : Int) < angle))
            ∧ p.command = BitVec.ofInt 16 t.drive.lastCommand
            ∧ p.flags.getLsbD 1 = aimed.atMin ∧ p.flags.getLsbD 2 = aimed.atMax
            ∧ p.flags.getLsbD 3 = decide (100 ≤ t.corr.strain)
            ∧ p.flags.getLsbD 4 = t.sensor.biasRough ∧ p.flags.getLsbD 5 = t.sensor.biasNone
            ∧ p.flags.getLsbD 8 = p.ramping ∧ p.flags.getLsbD 9 = s.node.homed)
          ∧ (s.node.state = .setup ∨ (s.node.state = .fault ∧ s.setup.committed = false) →
            t.node.state = s.node.state ∧ p.angle = 0 ∧ p.rate = 0 ∧ p.offset = 0
              ∧ p.command = 0 ∧ p.flags = 0))

/-- BIAS_CAPTURE_END (R66, R9, R99): the reading that brings the run to 2048 sets the bias to
floor((acc + 1024) / 2048) on each axis; at BASE the attitude starts from zero. SETTLING_TIMEOUT (R67):
at the 30,000th sample a run of 256..2047 readings sets the bias to round(acc / n) and BIAS_ROUGH, a
shorter one BIAS_NONE. Either way SETTLING is left for PARKED or IDLE by the homed flag. Any other
sample in SETTLING raises the settling count and keeps SETTLING, the bias and its flags: a valid reading
opens the run, extends it within the still band of the anchor or restarts it outside, and a sample
without one closes it (R64, R65). -/
def Obligations.BiasCapturesEnd : Prop :=
  ∀ (s : State) (q : Request) (tr : SampleTrigger) (now : Time),
    s.ends q tr → s.node.state = .settling →
    let left : NodeState := if s.node.homed then .parked else .idle
    let near (x y : Int) : Prop := (y - x).natAbs ≤ stillBand s.setup
    let within (x : Run) (r : SensorReply) : Prop :=
      replyValid r = true ∧ near x.anchor.yaw (replyRates r).yaw
        ∧ near x.anchor.pitch (replyRates r).pitch ∧ near x.anchor.roll (replyRates r).roll
    (∀ (r : SensorReply) (x : Run), tr = .reply r → s.sensor.run = some x → within x r → x.n = 2047 →
      ∃ t, exec (.biasCaptureEnd tr now) s = .next t ∧ t.node.state = left
      ∧ t.sensor.bias =
          { yaw := Int.fdiv (x.acc.yaw + (replyRates r).yaw + 1024) 2048
            pitch := Int.fdiv (x.acc.pitch + (replyRates r).pitch + 1024) 2048
            roll := Int.fdiv (x.acc.roll + (replyRates r).roll + 1024) 2048 }
      ∧ t.sensor.biasRough = s.sensor.biasRough ∧ t.sensor.biasNone = s.sensor.biasNone
      ∧ t.drive.enable = false ∧ t.drive.brake = true
      ∧ (s.ident.role = .base → t.vref.phi = Axes.zero ∧ t.vref.heading = 0
          ∧ t.vref.running = true))
    ∧ (s.sensor.settling = 29999 →
      (∀ (r : SensorReply) (x : Run), tr = .reply r → s.sensor.run = some x → within x r →
        255 ≤ x.n → x.n < 2047 →
        ∃ t, exec (.settlingTimeout tr now) s = .next t ∧ t.node.state = left
          ∧ t.sensor.biasRough = true ∧ t.sensor.biasNone = s.sensor.biasNone
          ∧ t.sensor.bias =
              { yaw := roundDiv (x.acc.yaw + (replyRates r).yaw) (x.n + 1)
                pitch := roundDiv (x.acc.pitch + (replyRates r).pitch) (x.n + 1)
                roll := roundDiv (x.acc.roll + (replyRates r).roll) (x.n + 1) })
      ∧ ((∀ (r : SensorReply) (x : Run), tr = .reply r → s.sensor.run = some x → within x r →
            x.n < 255) →
        ∃ t, exec (.settlingTimeout tr now) s = .next t ∧ t.node.state = left
          ∧ t.sensor.biasNone = true ∧ t.sensor.biasRough = s.sensor.biasRough
          ∧ t.sensor.bias = s.sensor.bias))
    ∧ (s.sensor.settling < 29999 →
      let goesOn (run : Option Run) : Prop := ∃ t, exec (eventOf tr now) s = .next t
        ∧ t.node = s.node ∧ t.drive = { s.drive with lastCommand := 0 } ∧ t.sensor.run = run
        ∧ t.sensor.settling = s.sensor.settling + 1 ∧ t.sensor.bias = s.sensor.bias
        ∧ t.sensor.biasRough = s.sensor.biasRough ∧ t.sensor.biasNone = s.sensor.biasNone
      (triggerValid tr = false → goesOn none)
      ∧ ∀ r : SensorReply, tr = .reply r → replyValid r = true →
        let first : Run := { anchor := replyRates r, acc := replyRates r, n := 1 }
        (s.sensor.run = none → goesOn (some first))
        ∧ ∀ x, s.sensor.run = some x →
          (¬ within x r → goesOn (some first))
          ∧ (within x r → x.n ≠ 2047 → goesOn (some { x with
              acc := { yaw := x.acc.yaw + (replyRates r).yaw, pitch := x.acc.pitch + (replyRates r).pitch
                       roll := x.acc.roll + (replyRates r).roll }
              n := x.n + 1 })))

/-- A sample delivered in HOMING, and HOME_TIMEOUT (R77, R78, R83, R84, R86): the homing count rises; the
command is the last one moved toward the home rate, with the sign of the search, by at most La of page
0. The leading switch tripped at a limited joint turns a first search round and raises HOME_FAIL on a
second; the 60,000th sample raises HOME_FAIL; DRIVE_FAULT asserted raises DRIVE, and with another
cause both, either first; the REPORT of a sample that enters FAULT shows command 0 (R131's Note). Page 0's
La is not negative. -/
def Obligations.HomingSamplesSearch : Prop :=
  ∀ (s : State) (q : Request) (tr : SampleTrigger) (now : Time) (m : HomeMove), s.ends q tr →
    triggerValid tr = true ∨ s.sensor.misses < 2 →
    s.node.state = .homing → s.drive.home = some m →
    let la := s.gains.pages[(0 : PageNo)].gains.la
    0 ≤ la →
    let wanted : Int :=
      if m.up then ((geoG4 s.setup).homeRate : Int) else -((geoG4 s.setup).homeRate : Int)
    let command := max (s.drive.lastCommand - la) (min (s.drive.lastCommand + la) wanted)
    let met : Prop := (geoG2 s.setup).continuous = false
      ∧ (if m.up then s.drive.maxTripped else s.drive.minTripped) = true
    let n := min 60000 (m.count + 1)
    let fails : Prop := (met ∧ m.reversals ≠ 0) ∨ n = 60000
    let shows (t : State) (code : BitVec 4) (u : Int) : Prop := s.link.slots.report = .empty →
      ∃ p, t.link.slots.report =
        .armed { body := .report p, sampleTime := q.sampleTime, effectTime := none } 0
        ∧ p.state = code ∧ p.command = BitVec.ofInt 16 u
    let stopped (t : State) : Prop := t.node.state = .fault ∧ t.node.homed = s.node.homed
      ∧ t.node.latch = false ∧ t.drive = driveOff s.drive ∧ t.sensor.indexArmed = false
      ∧ shows t 8 0
    ∃ t, exec (eventOf tr now) s = .next t
      ∧ (s.drive.driveFault = false → ¬ fails → t.node = s.node ∧ shows t 3 command
        ∧ (¬ met → t.drive = { s.drive with
            lastCommand := command, home := some { m with count := n } })
        ∧ (met → t.drive = { s.drive with
            lastCommand := command, home := some { up := !m.up, reversals := 1, count := n } }))
      ∧ (s.drive.driveFault = false → met → m.reversals ≠ 0 → n < 60000 →
          stopped t ∧ t.node.record = recordOf .homeFail 16 now .homing)
      ∧ (s.drive.driveFault = false → n = 60000 → ¬ (met ∧ m.reversals ≠ 0) →
          stopped t ∧ t.node.record = recordOf .homeFail 16 now .homing
          ∧ exec (.homeTimeout tr now) s = .next t)
      ∧ (s.drive.driveFault = true → ¬ fails →
          stopped t ∧ t.node.record = recordOf .drive 4 now .homing)
      ∧ (s.drive.driveFault = true → fails → ¬ (met ∧ m.reversals ≠ 0 ∧ n = 60000) →
          stopped t ∧ t.node.record.causes = 20 ∧ t.node.record.later = 1
          ∧ (t.node.record.first = some .drive ∨ t.node.record.first = some .homeFail))

/-- A sample delivered in PARKING, with MOVE_TIMEOUT and PARK_ARRIVAL (R77, R78, R81, R88 to R90, R161):
the park count rises; the command is 8 times the error, held to the park rate, to La of page 0 about
the last command and to the park rate again. Toward a tripped switch of a limited joint it raises
END_STOP and is not sent; DRIVE_FAULT raises DRIVE. Otherwise it is sent; the 20th still sample in a
row arrives: PARKED, or with the latch ENGAGED with its entry work, or HOLD at a hold cause; else the
60,000th raises MOVE_TIMEOUT. A sample that raises END_STOP or DRIVE neither arrives nor times out, by the
model's reading (log entry 17). Page 0's La is not negative. -/
def Obligations.ParkingSamplesReachThePark : Prop :=
  ∀ (s : State) (q : Request) (tr : SampleTrigger) (now : Time) (m : ParkMove), s.ends q tr →
    triggerValid tr = true ∨ s.sensor.misses < 2 →
    s.node.state = .parking → s.drive.park = some m →
    let la := s.gains.pages[(0 : PageNo)].gains.la
    0 ≤ la →
    let smp := s.sampleFor q tr now
    let limited := !(geoG2 s.setup).continuous
    let r : Int := ((geoG4 s.setup).parkRate : Int)
    let held (x : Int) : Int := max (-r) (min r x)
    let gap : Int := (geoG3 s.setup).park - smp.angle
    let e : Int := if limited then max (-32767) (min 32767 gap) else Int.bmod gap 65536
    let command :=
      held (max (s.drive.lastCommand - la) (min (s.drive.lastCommand + la) (held (e * 8))))
    let toward : Prop := limited = true ∧ ((0 < command ∧ s.drive.maxTripped = true)
      ∨ (command < 0 ∧ s.drive.minTripped = true))
    let n := min 60000 (m.count + 1)
    let arrival := if e.natAbs ≤ 2 ∧ smp.rate.natAbs ≤ 64 then min 20 (m.arrival + 1) else 0
    let stopped (t : State) : Prop := t.node.state = .fault ∧ t.node.homed = s.node.homed
      ∧ t.node.latch = false ∧ t.drive = driveOff s.drive
    let cause := holdCause (s.takenUp q tr now)
    ∃ t, exec (eventOf tr now) s = .next t
      ∧ (toward → s.drive.driveFault = false →
          stopped t ∧ t.node.record = recordOf .endStop 2 now .parking)
      ∧ (¬ toward → s.drive.driveFault = true →
          stopped t ∧ t.node.record = recordOf .drive 4 now .parking)
      ∧ (toward → s.drive.driveFault = true →
          stopped t ∧ t.node.record.causes = 6 ∧ t.node.record.later = 1
          ∧ (t.node.record.first = some .drive ∨ t.node.record.first = some .endStop))
      ∧ (¬ toward → s.drive.driveFault = false → arrival < 20 → n < 60000 → t.node = s.node
          ∧ t.drive = { s.drive with
              lastCommand := command, park := some { count := n, arrival := arrival } }
          ∧ (s.link.slots.report = .empty → ∃ p, t.link.slots.report =
              .armed { body := .report p, sampleTime := q.sampleTime, effectTime := none } 0
              ∧ p.state = 7 ∧ p.command = BitVec.ofInt 16 command))
      ∧ (¬ toward → s.drive.driveFault = false → arrival < 20 → n = 60000 →
          stopped t ∧ t.node.record = recordOf .moveTimeout 8 now .parking
          ∧ exec (.moveTimeout tr now) s = .next t)
      ∧ (¬ toward → s.drive.driveFault = false → arrival = 20 →
          exec (.parkArrival tr now) s = .next t ∧ t.node.latch = false ∧ t.drive.park = none
          ∧ (s.node.latch = false → t.node.state = .parked ∧ t.drive = driveOff s.drive)
          ∧ (s.node.latch = true → cause = false → t.node.state = .engaged
              ∧ t.drive = { s.drive with
                  enable := true, brake := false, lastCommand := command, home := none, park := none }
              ∧ t.gains.blend = 0 ∧ t.gains.fromGains = GainSet.zero
              ∧ (∀ p, t.gains.page = some p → t.gains.toGains = t.gains.pages[p].gains)
              ∧ t.corr.commandPrev = 0 ∧ t.corr.strain = 0 ∧ t.corr.sign = 0 ∧ t.corr.targetPrev = smp.angle
              ∧ (isCoarse s.ident.role = true → t.corr.split = smp.angle)
              ∧ reversalCount t.sensor.ring = 0)
          ∧ (s.node.latch = true → cause = true → t.node.state = .hold ∧ t.drive = driveOff s.drive
              ∧ t.node.holdExit = 0))

/-- A sample delivered in ENGAGED or HOLD with a switch tripped at a limited joint raises END_STOP, in
ENGAGED one with DRIVE_FAULT asserted DRIVE, and with both the two are taken one after the other in
either order (R15, R78, R80); the command is not sent and the previous target stands (R129). In SETUP,
IDLE, PARKED and FAULT the command is 0 and no level raises anything (R77, R78, R79). -/
def Obligations.SamplesJudgeTheDriveInputs : Prop :=
  ∀ (s : State) (q : Request) (tr : SampleTrigger) (now : Time), s.ends q tr →
    let u := s.takenUp q tr now
    let tripped : Prop := (geoG2 s.setup).continuous = false
      ∧ (s.drive.minTripped = true ∨ s.drive.maxTripped = true)
    let stopped (t : State) : Prop := t.node.state = .fault ∧ t.node.homed = s.node.homed
      ∧ t.node.latch = false ∧ t.drive = driveOff s.drive
    ∃ t, exec (eventOf tr now) s = .next t
      ∧ (u.node.state = .engaged → tripped ∨ s.drive.driveFault = true → stopped t
          ∧ t.corr.commandPrev = 0 ∧ t.corr.targetPrev = u.corr.targetPrev ∧ t.gains.blend = 64
          ∧ t.sensor.ring = u.sensor.ring
          ∧ (¬ tripped → t.node.record = recordOf .drive 4 now .engaged)
          ∧ (s.drive.driveFault = false → t.node.record = recordOf .endStop 2 now .engaged)
          ∧ (tripped → s.drive.driveFault = true →
              t.node.record = { recordOf .drive 6 now .engaged with later := 1 }
              ∨ t.node.record = { recordOf .endStop 6 now .engaged with later := 1 }))
      ∧ (u.node.state = .hold → tripped →
          stopped t ∧ t.node.record = recordOf .endStop 2 now .hold)
      ∧ (triggerValid tr = true ∨ s.sensor.misses < 2 →
          (s.node.state = .setup ∨ s.node.state = .idle ∨ s.node.state = .parked
            ∨ s.node.state = .fault → t.node = s.node
            ∧ t.drive = { s.drive with lastCommand := 0 })
          ∧ (s.node.state = .settling → t.drive.lastCommand = 0))

/-- HOLD_EXIT (R162, R158): the 50th sample in HOLD without a hold cause ends it after its REPORT, which
shows HOLD; ENGAGED is entered with the entry work: at a coarse joint the split state, and everywhere the
previous target, take the angle of this sample, the previous command, s, the strain counter and the
reversal flags are 0, and the engage blend goes from 0 to the gains of the page in use. -/
def Obligations.HoldEndsAfterFiftySamples : Prop :=
  ∀ (s : State) (q : Request) (tr : SampleTrigger) (now : Time),
    s.ends q tr → s.node.state = .hold → (s.takenUp q tr now).node.state = .hold →
    s.node.holdExit = 49 → holdCause (s.takenUp q tr now) = false → anyTripped s = false →
    ∃ t, exec (.holdExit tr now) s = .next t ∧ t.node.state = .engaged ∧ t.node.holdExit = 0
      ∧ t.drive.enable = true ∧ t.drive.brake = false ∧ t.drive.lastCommand = 0
      ∧ t.gains.blend = 0 ∧ t.gains.fromGains = GainSet.zero
      ∧ (∀ p, t.gains.page = some p → t.gains.toGains = t.gains.pages[p].gains)
      ∧ (isCoarse s.ident.role = true → t.corr.split = (s.sampleFor q tr now).angle)
      ∧ t.corr.commandPrev = 0 ∧ t.corr.sign = 0 ∧ t.corr.strain = 0
      ∧ t.corr.targetPrev = (s.sampleFor q tr now).angle ∧ reversalCount t.sensor.ring = 0
      ∧ t.setup = s.setup ∧ t.node.homed = s.node.homed
      ∧ (s.link.slots.report = .empty → ∃ p, t.link.slots.report =
          .armed { body := .report p, sampleTime := q.sampleTime, effectTime := none } 0
          ∧ p.state = 6 ∧ p.command = 0)

/-- A sample at BASE in which speed, roughness and regime run (R73, R105 to R110): the roughness term is
|Δpitch| + |Δroll| of the corrected rates, under the bias of this sample; it joins the ring and the
sum, and the term of the oldest of 64 leaves; index and class follow from the sum, the band from the
speed. A due pending regime is published first; then the classification is debounced against the
published regime, and the 200th in a row is announced 10,000 µs ahead. A capture later than the sample
time is fresh, by the model's reading (log entry 26). -/
def Obligations.BaseSamplesClassifyTheRoad : Prop :=
  ∀ (s : State) (q : Request) (tr : SampleTrigger) (now : Time) (c : Regime), s.ends q tr →
    s.ident.role = .base → s.setup.committed = true → s.node.state ≠ .setup →
    let smp := s.sampleFor q tr now
    let rate (raw bias : Int) : Int := max (-32767) (min 32767 (raw - bias))
    let term : Nat := match s.vref.prevRaw with
      | none => 0
      | some p =>
        (rate smp.raw.pitch smp.bias.pitch - rate p.pitch smp.bias.pitch).natAbs
          + (rate smp.raw.roll smp.bias.roll - rate p.roll smp.bias.roll).natAbs
    let leaving : Nat := match s.sensor.ring[63]? with
      | none => 0
      | some e => e.rough
    let sum := s.vref.roughSum + term - leaving
    let index := min 65535 (sum / 64)
    let a := thresholdsT1 s.setup
    let b := thresholdsT2 s.setup
    let r := thresholdsT3 s.setup
    let capture : Option Time := match s.vref.lastSpeed with
      | none => none
      | some x =>
        let gone := (q.sampleTime - x).toNat
        if 500000 ≤ gone ∧ gone < 2147483648 then none else some x
    let speed := if capture = none ∧ s.vref.lastSpeed ≠ none then 0 else s.vref.speed
    let published : Option Regime := match s.vref.pending with
      | some (x, due) => if (q.sampleTime - due).toNat < 2147483648 then some x else s.vref.published
      | none => s.vref.published
    let waiting : Option (Regime × Time) := match s.vref.pending with
      | some (x, due) => if (q.sampleTime - due).toNat < 2147483648 then none else some (x, due)
      | none => none
    let n := if s.vref.candidate = some c then s.vref.debounce + 1 else 1
    c.val = 4 * [a.s1, a.s2, a.s3, b.s4, b.s5, b.s6, b.s7].countP (· ≤ speed)
      + [r.r1, r.r2, r.r3].countP (· ≤ index) →
    ∃ t, exec (eventOf tr now) s = .next t
      ∧ t.vref.prevRaw = some smp.raw ∧ t.vref.roughSum = sum
      ∧ t.sensor.ring.map (·.rough) = term :: (s.sensor.ring.take 63).map (·.rough)
      ∧ t.vref.speed = speed ∧ t.vref.lastSpeed = capture ∧ t.vref.published = published
      ∧ (published = some c →
          t.vref.candidate = none ∧ t.vref.debounce = 0 ∧ t.vref.pending = waiting)
      ∧ (published ≠ some c → n ≠ 200 →
          t.vref.candidate = some c ∧ t.vref.debounce = n ∧ t.vref.pending = waiting)
      ∧ (published ≠ some c → n = 200 → t.vref.candidate = none ∧ t.vref.debounce = 0
          ∧ t.vref.pending = some (c, q.sampleTime + 10000))
      ∧ (s.link.slots.vehicle = .empty → ∃ p, t.link.slots.vehicle =
          .armed { body := .vehicle p, sampleTime := q.sampleTime
                   effectTime := t.vref.pending.map (·.2) } 0
          ∧ p.speed = BitVec.ofNat 16 speed ∧ p.roughness = BitVec.ofNat 16 index)

/-- REGIME_ANNOUNCE (R108, R109), REGIME_EFFECT (R110, R147) and SPEED_TIMEOUT (R105) at BASE: the 200th
classification in a row of a candidate announces it with an effect time 10 ms after the sample time;
a pending regime due at the sample time is published, and BASE's directory switches to it, which sets the
page in use, the gains and the monitor as a regime switch does (R139, R143, R144, R146); 500,000 µs
or more from the last capture to the sample time make the speed 0 and drop the capture, but for a
capture later than the sample time, which is fresh by the model's reading (log entry 26). -/
def Obligations.RegimeAndSpeedFollowTheSample : Prop :=
  ∀ (s : State) (q : Request) (tr : SampleTrigger) (now : Time) (r : Regime),
    s.ends q tr → s.ident.role = .base →
    let u := s.atDelivery q tr now
    let smp := s.sampleFor q tr now
    let v := (roughnessStep u.node.state smp u).vref
    regimeRuns s.setup.committed u.node.state = true →
    (s.vref.candidate = some r → s.vref.debounce = 199 → s.vref.published ≠ some r →
      s.vref.pending = none →
      classify s.setup (testSpeedTimeout q.sampleTime v).speed v.roughSum = r →
      ∃ t, exec (.regimeAnnounce tr now) s = .next t
        ∧ t.vref.pending = some (r, q.sampleTime + 10000) ∧ t.vref.candidate = none
        ∧ t.vref.debounce = 0 ∧ t.vref.published = s.vref.published
        ∧ t.gains.regime = s.gains.regime)
    ∧ (∀ due, s.vref.pending = some (r, due) → (q.sampleTime - due).toNat < 2147483648 →
      ∃ t, exec (.regimeEffect tr now) s = .next t
        ∧ t.vref.published = some r ∧ t.gains.regime = some r
        ∧ t.gains.entries[r].visited = true
        ∧ u.switchedAtSample r (s.takenUp q tr now) t)
    ∧ (∀ c, s.vref.lastSpeed = some c → 500000 ≤ (q.sampleTime - c).toNat →
      (q.sampleTime - c).toNat < 2147483648 →
      ∃ t, exec (.speedTimeout tr now) s = .next t ∧ t.vref.speed = 0 ∧ t.vref.lastSpeed = none)

/-- A sample at BASE with the attitude running (R95 to R98, R100 to R103, R111, R112): yaw takes its rate
and wraps, pitch and roll take theirs and leak, the heading follows by the mode and β of the aim in
use, and an EMPTY VEHICLE slot is armed with the sample's content, valid unless SENSOR is in the cause
set. The named rate is raw less bias, saturated. -/
def Obligations.BaseSamplesTurnTheAttitude : Prop :=
  ∀ (s : State) (q : Request) (tr : SampleTrigger) (now : Time) (i : Instr), s.ends q tr →
    (∃ m, tr = .expiry m ∧ i = .sampleTimerExpiry m now)
      ∨ (∃ r, tr = .reply r ∧ i = .rateSensorReply r now) →
    s.ident.role = .base → s.vref.running = true → s.setup.committed = true →
    let u := s.atDelivery q tr now
    u.node.state ≠ .setup → u.node.state ≠ .settling →
    let smp := s.sampleFor q tr now
    let rate (raw bias : Int) : Int := max (-32767) (min 32767 (raw - bias))
    let leaky (x w : Int) : Int := max (-1048576) (min 1048576 (x + w - Int.tdiv x 4096))
    let yaw := Int.bmod (s.vref.phi.yaw + rate smp.raw.yaw smp.bias.yaw) 4194304
    let aim := aimInUse u
    ∃ t, exec i s = .next t
      ∧ t.vref.phi =
          { yaw := yaw
            pitch := leaky s.vref.phi.pitch (rate smp.raw.pitch smp.bias.pitch)
            roll := leaky s.vref.phi.roll (rate smp.raw.roll smp.bias.roll) }
      ∧ t.vref.heading = (match aim.mode with
          | .rigid => yaw
          | .stab => Int.bmod (s.vref.heading
              + Int.tdiv (Int.bmod (yaw - s.vref.heading) 4194304 * aim.beta) 65536) 4194304)
      ∧ t.vref.running = true
      ∧ (s.link.slots.vehicle = .empty → ∃ p, t.link.slots.vehicle =
          .armed { body := .vehicle p, sampleTime := q.sampleTime
                   effectTime := t.vref.pending.map (·.2) } 0
          ∧ p.seq = s.link.seqs.vehicle ∧ p.valid = !u.node.record.causes.getLsbD 6
          ∧ p.pendingPresent = t.vref.pending.isSome
          ∧ p.regime = (match t.vref.published with
              | some r => BitVec.ofNat 8 r.val
              | none => 255)
          ∧ p.attYaw = BitVec.ofInt 16 (Int.fdiv (yaw + 32) 64)
          ∧ p.attPitch = BitVec.ofInt 16 (Int.fdiv (t.vref.phi.pitch + 32) 64)
          ∧ p.rateYaw = BitVec.ofInt 16 (rate smp.raw.yaw smp.bias.yaw)
          ∧ p.heading = BitVec.ofInt 16 (Int.fdiv (t.vref.heading + 32) 64)
          ∧ p.speed = BitVec.ofNat 16 t.vref.speed)

/-- PART_FRESHNESS_AGING (R46, R48, R50): at an own sample a FRESH report, vehicle or aim part of an
address becomes STALE at an age of 5,000..19,999 µs and LOST from 20,000 µs, a STALE one LOST from
20,000 µs, a LOST one stays, and the content is kept. LOCAL_PENDING_DUE at the joints other than BASE
(R150, R139, R138): a local pending due at the sample time is gone, its regime is in use, its entry
VISITED, and the page in use, the gains and the monitor are as a regime switch sets them (R143, R144,
R146). -/
def Obligations.PartsAndPendingRegimesAge : Prop :=
  ∀ (s : State) (q : Request) (tr : SampleTrigger) (now : Time), s.ends q tr →
    let age {α : Type} (p : PeerPart α) : Int := (q.sampleTime - p.capture).toInt + (p.age.toNat : Int)
    let aged {α : Type} (p : PeerPart α) : PeerPart α := { p with
      fresh := match p.fresh with
        | .fresh => if age p < 5000 then .fresh else if age p < 20000 then .stale else .lost
        | .stale => if age p < 20000 then .stale else .lost
        | .lost => .lost }
    (∃ t, exec (eventOf tr now) s = .next t
      ∧ (∀ a : Fin 7, t.peers.entries[a] = { s.peers.entries[a] with
          report := s.peers.entries[a].report.map aged
          vehicle := s.peers.entries[a].vehicle.map aged
          aim := s.peers.entries[a].aim.map aged })
      ∧ ((∃ a : Fin 7, s.peers.entries[a].report.map aged ≠ s.peers.entries[a].report
            ∨ s.peers.entries[a].vehicle.map aged ≠ s.peers.entries[a].vehicle
            ∨ s.peers.entries[a].aim.map aged ≠ s.peers.entries[a].aim) →
          exec (.partFreshnessAging tr now) s = .next t))
    ∧ (∀ (due : Time) (r : Regime), s.ident.role ≠ .base →
      directoryRuns (s.atDelivery q tr now).node.state = true →
      s.gains.pending = some (r, due) → (q.sampleTime - due).toNat < 2147483648 →
      ∃ t, exec (.localPendingDue tr now) s = .next t ∧ t.gains.pending = none
        ∧ t.gains.regime = some r ∧ t.gains.entries[r].visited = true
        ∧ (let u := s.atDelivery q tr now
          ({ u with gains := { u.gains with pending := none } } : State).switchedAtSample r
            (s.takenUp q tr now) t))

/-- The demand of a sample (R51, R115 to R118, R166, R167), which becomes Dprev. The held aim is that of
the selected aim part while it is FRESH or STALE, and stands otherwise, CONSOLE_LOST showing it. RIGID:
the aim of the joint's axis, and TRACKING with j at 0. STAB: on yaw the wrapped difference of heading
reference + aim and attitude, on pitch and roll the clamped aim less the attitude, saturated; at BASE
from the attitude and heading of the same sample, at the other joints, in TRACKING with a usable vehicle
part, from that part, its attitude projected by rate × age / 64000. -/
def Obligations.DemandFollowsTheMode : Prop :=
  ∀ (s : State) (q : Request) (tr : SampleTrigger) (now : Time), s.ends q tr →
    let u := s.takenUp q tr now
    let role := s.ident.role
    let yaw : Prop := role = .base ∨ role = .pan
    let axis {α : Type} (y p r : α) : α := match role with
      | .base | .pan => y
      | .boom | .tilt => p
      | _ => r
    let wrap (x : Int) : Int := Int.bmod x 65536
    let sight (x : Int) : Int := max (-16384) (min 16384 x)
    let held := aimInUse u
    let aim := axis held.aim.yaw held.aim.pitch held.aim.roll
    let counts (x : Int) : Int := wrap (Int.fdiv (x + 32) 64)
    (∀ a p, u.peers.selAim = some a → u.peers.entries[a].aim = some p → p.fresh ≠ .lost →
      held.aim = { yaw := p.content.yaw.toInt, pitch := p.content.pitch.toInt
                   roll := p.content.roll.toInt }
      ∧ held.beta = p.content.beta.toNat
      ∧ (p.content.mode = 0 → held.mode = .stab) ∧ (p.content.mode = 1 → held.mode = .rigid))
    ∧ ((∀ a p, u.peers.selAim = some a → u.peers.entries[a].aim = some p → p.fresh = .lost) →
      held = s.corr.held)
    ∧ (∀ a v, role ≠ .base → u.peers.selVehicle = some a → u.peers.entries[a].vehicle = some v →
      v.fresh ≠ .lost →
      let age : Int := ((((q.sampleTime - v.capture).toInt + (v.age.toNat : Int)).toNat : Nat) : Int)
      let x := v.content
      let from' : Int := axis x.attYaw.toInt x.attPitch.toInt x.attRoll.toInt
      let moved := from' + Int.tdiv (axis x.rateYaw.toInt x.ratePitch.toInt x.rateRoll.toInt * age) 64000
      (yaw → remoteDemand q.sampleTime (takeAim u)
        = wrap (wrap (x.heading.toInt + aim) - wrap moved))
      ∧ (¬ yaw → remoteDemand q.sampleTime (takeAim u)
        = max (-32767) (min 32767 (sight aim - sight moved))))
    ∧ ∃ t, exec (eventOf tr now) s = .next t ∧ t.corr.held = held
      ∧ (s.setup.committed = true → s.node.state ≠ .setup →
        (s.link.slots.report = .empty → ∃ p, t.link.slots.report =
          .armed { body := .report p, sampleTime := q.sampleTime, effectTime := none } 0
          ∧ (p.flags.getLsbD 7 = true ↔ ¬ ∃ a x, u.peers.selAim = some a
              ∧ u.peers.entries[a].aim = some x ∧ x.fresh ≠ .lost))
        ∧ (held.mode = .rigid → t.corr.demandPrev = aim ∧ t.corr.loss = .tracking
          ∧ t.corr.reacquire = 0 ∧ t.corr.offset = s.corr.offset)
        ∧ (held.mode = .stab → role = .base → t.corr.demandPrev
            = wrap (wrap (counts u.vref.heading + aim) - counts u.vref.phi.yaw)
          ∧ t.corr.loss = s.corr.loss ∧ t.corr.offset = s.corr.offset)
        ∧ (held.mode = .stab → role ≠ .base → vehicleUsable u = true → s.corr.loss = .tracking →
          t.corr.demandPrev = remoteDemand q.sampleTime (takeAim u)
          ∧ t.corr.loss = .tracking ∧ t.corr.offset = s.corr.offset))

/-- Vehicle loss at a joint that is not BASE, in STAB (R163 to R165). The selected vehicle part is usable
where it is FRESH or STALE with valid set; VEHICLE_LOST shows that it is not. The first sample without
a usable part freezes O = Dprev − aim; while FROZEN D = aim + O. Its return starts the ramp: D = Dstab +
trunc(Δ(64 − j)/64) with Δ = (aim + O) − Dstab, and j rises to 64, which is TRACKING and REACQUIRE_COMPLETE.
A ramp under way in ENGAGED stands at its j throughout a FAULT entered there, each sample formed with
that j, while one that begins in FAULT advances, by the model's reading of R14 and R165 (log entry 15). -/
def Obligations.VehicleLossFreezesAndRamps : Prop :=
  ∀ (s : State) (q : Request) (tr : SampleTrigger) (now : Time), s.ends q tr →
    s.ident.role ≠ .base → s.setup.committed = true → s.node.state ≠ .setup →
    let u := s.takenUp q tr now
    let held := aimInUse u
    let aim : Int := match s.ident.role with
      | .base | .pan => held.aim.yaw
      | .boom | .tilt => held.aim.pitch
      | _ => held.aim.roll
    let range (x : Int) : Int :=
      if s.ident.role = .pan then Int.bmod x 65536 else max (-32767) (min 32767 x)
    let usable : Prop := ∃ a v, u.peers.selVehicle = some a ∧ u.peers.entries[a].vehicle = some v
      ∧ v.fresh ≠ .lost ∧ v.content.valid = true
    let stab := remoteDemand q.sampleTime (takeAim u)
    let c := s.corr
    let j := if c.loss = .frozen then 0 else c.reacquire
    let halted : Prop := u.node.state = .fault ∧ c.loss = .reacquiring
      ∧ (if s.node.state = .fault then c.rampHalted = true else s.node.state = .engaged)
    held.mode = .stab →
    (vehicleUsable u = true ↔ usable)
    ∧ ∃ t, exec (eventOf tr now) s = .next t
      ∧ (s.link.slots.report = .empty → ∃ p, t.link.slots.report =
          .armed { body := .report p, sampleTime := q.sampleTime, effectTime := none } 0
          ∧ (p.flags.getLsbD 6 = true ↔ ¬ usable))
      ∧ (¬ usable → c.loss ≠ .frozen → t.corr.offset = range (c.demandPrev - aim)
          ∧ t.corr.demandPrev = range (aim + t.corr.offset) ∧ t.corr.loss = .frozen
          ∧ t.corr.reacquire = 0)
      ∧ (¬ usable → c.loss = .frozen → t.corr.offset = c.offset
          ∧ t.corr.demandPrev = range (aim + c.offset) ∧ t.corr.loss = .frozen)
      ∧ (usable → c.loss ≠ .tracking →
          t.corr.demandPrev
            = range (stab + Int.tdiv (range (range (aim + c.offset) - stab) * (64 - (j : Int))) 64)
          ∧ t.corr.offset = c.offset
          ∧ (¬ halted → t.corr.reacquire = j + 1
              ∧ t.corr.loss = (if j + 1 = 64 then .tracking else .reacquiring))
          ∧ (halted → t.corr.reacquire = c.reacquire ∧ t.corr.loss = .reacquiring
              ∧ t.corr.rampHalted = true))
      ∧ (usable → c.loss = .reacquiring → c.reacquire = 63 → ¬ halted →
          exec (.reacquireComplete tr now) s = .next t)

/-- The joint's share of the demand D at a sample delivered in a state (R54, R120 to R124), as aimSample
forms it; D is the Dprev it leaves. A coarse joint ENGAGED with its fine partner FRESH or STALE in state
5 follows D by α and adds the relief of the partner's centre offset, fourfold IN_CUSHION; alone its
target and C are D; outside ENGAGED D, C kept. A fine joint takes D less the coarse partner's angle,
projected, or held where LOST. A limited joint clamps to its window; the strain count follows, and at
100 the page in use is STRAINED. -/
def Obligations.TargetsShareTheDemand : Prop :=
  ∀ (st : NodeState) (now : Time) (s : State), isJoint s.ident.role = true →
    let t := (aimSample st now s).2
    let a := (aimSample st now s).1
    let d := t.corr.demandPrev
    let g := effectiveGains s.gains
    let g2 := geoG2 s.setup
    let limited := !g2.continuous
    let yaw : Prop := s.ident.role = .base ∨ s.ident.role = .pan
    let wrap (x : Int) : Int := Int.bmod x 65536
    let sat (x : Int) : Int := max (-32768) (min 32767 x)
    let coarse := s.ident.role = .base ∨ s.ident.role = .boom
    let partner : Option (PeerPart ReportPayload) := s.peers.partner.bind (fun n => s.peers.entries[n].report)
    let joined (p : PeerPart ReportPayload) : Prop := p.fresh ≠ .lost ∧ p.content.state = 5
    ∃ x : Int,
      (coarse → st = .engaged → ∀ p, partner = some p → joined p →
        let rho' := if p.content.flags.getLsbD 0 then 4 * g.rho else g.rho
        let relief := Int.tdiv (p.content.offset.toInt * rho') 256
        (yaw → t.corr.split
          = wrap (s.corr.split + Int.tdiv (wrap (d - s.corr.split) * g.alpha) 65536))
        ∧ (¬ yaw → t.corr.split
          = sat (s.corr.split + Int.tdiv ((d - s.corr.split) * g.alpha) 65536))
        ∧ x = if limited then sat (t.corr.split + relief) else wrap (t.corr.split + relief))
      ∧ (coarse → st = .engaged → (∀ p, partner = some p → ¬ joined p) → t.corr.split = d ∧ x = d)
      ∧ (coarse → st ≠ .engaged → t.corr.split = s.corr.split ∧ x = d)
      ∧ (¬ coarse → t.corr.split = s.corr.split
        ∧ (let share : Int := match partner with
            | none => d
            | some p =>
              let age : Int := ((((now - p.capture).toInt + (p.age.toNat : Int)).toNat : Nat) : Int)
              let moved := p.content.angle.toInt + Int.tdiv (p.content.rate.toInt * age) 64000
              let from' := if p.fresh = .lost then p.content.angle.toInt
                else if s.ident.role = .pan then wrap moved else sat moved
              if s.ident.role = .pan then wrap (d - from') else max (-32767) (min 32767 (d - from'))
          x = if limited then share else wrap share))
      ∧ (limited = false → a.target = x ∧ a.atMin = false ∧ a.atMax = false)
      ∧ (limited = true →
          a.target = (if x < g2.min then g2.min else if g2.max < x then g2.max else x)
          ∧ (a.atMin = true ↔ s.node.homed = true ∧ x < g2.min)
          ∧ (a.atMax = true ↔ s.node.homed = true ∧ g2.max < x))
      ∧ t.corr.strain = (if st = .engaged ∧ limited = true ∧ (x < g2.min ∨ g2.max < x) then
          min 65535 (s.corr.strain + 1) else 0)
      ∧ (st = .engaged → 100 ≤ t.corr.strain → ∀ p, s.gains.page = some p → t.gains = { s.gains with
          pages := s.gains.pages.set p { s.gains.pages[p] with strained := true } })
      ∧ (st ≠ .engaged ∨ t.corr.strain < 100 ∨ s.gains.page = none → t.gains = s.gains)
      ∧ t = { s with corr := t.corr, gains := t.gains }

/-- What an ENGAGED sample sends (R125 to R129, R131, R142): with the target of R123 and the effective
gains as the working context holds them, the command goes through the sum, the rate limit, the
cushion, the acceleration limit and the rate limit again, and so never exceeds the effective rate
limit; it is recorded as sent and as the previous command, the target as the previous target, the
blend count advances, and an EMPTY REPORT slot is armed with it. The command is significant where it is
not 0 and at least trunc(Lr / 8) in magnitude: s then becomes its sign, and the newest ring entry gets
reversal flag 1 where s was of the opposite sign, otherwise 0 (R153, R73). At a distance of 0 or less the cushion
step gives 0 whatever the width, by the model's reading (log entry 13); in a window narrower than twice
the cushion it scales a command by the edge pointed toward even where the other edge is nearer, by the
model's choice (log entry 34). -/
def Obligations.EngagedSamplesSendTheLoopCommand : Prop :=
  ∀ (s : State) (q : Request) (tr : SampleTrigger) (now : Time), s.ends q tr →
    let u := s.takenUp q tr now
    let smp := s.sampleFor q tr now
    let aimed := aimSample .engaged q.sampleTime u
    let target := aimed.1.target
    let g := effectiveGains aimed.2.gains
    let g2 := geoG2 s.setup
    let width : Int := (geoG3 s.setup).cushion
    u.node.state = .engaged → s.drive.driveFault = false → anyTripped s = false →
    reversalCount u.sensor.ring ≤ 10 → 0 ≤ g.lr → 0 ≤ g.la →
    let diff (x y : Int) : Int := if isLimited s.setup then x - y else Int.bmod (x - y) 65536
    let sat (x : Int) : Int := max (-32767) (min 32767 x)
    let limit (x : Int) : Int := max (-g.lr) (min g.lr x)
    let ff := sat (diff target u.corr.targetPrev * 64)
    let u1 := sat (Int.tdiv (sat (diff target smp.angle) * g.kp) 16 + ff
      + Int.tdiv ((ff - smp.rate) * g.kd) 256)
    let u2 := limit u1
    let d := if 0 < u2 then g2.max - smp.angle else smp.angle - g2.min
    let u3 := if isLimited s.setup = false ∨ u2 = 0 ∨ (0 < d ∧ width ≤ d) then u2
      else if d ≤ 0 then 0 else Int.tdiv (u2 * d) width
    let u5 := limit (max (u.corr.commandPrev - g.la) (min (u.corr.commandPrev + g.la) u3))
    let significant : Prop := u5 ≠ 0 ∧ Int.tdiv g.lr 8 ≤ (u5.natAbs : Int)
    let flag : Bool := decide (significant ∧ u.corr.sign ≠ 0 ∧ u5.sign ≠ u.corr.sign)
    u5 ≤ g.lr ∧ -g.lr ≤ u5
    ∧ ∃ t, exec (eventOf tr now) s = .next t ∧ t.node.state = .engaged ∧ t.drive.lastCommand = u5
      ∧ t.drive.enable = s.drive.enable ∧ t.drive.brake = s.drive.brake
      ∧ t.corr.commandPrev = u5 ∧ t.corr.targetPrev = target
      ∧ t.gains.blend = min 64 (u.gains.blend + 1)
      ∧ t.corr.sign = (if significant then u5.sign else u.corr.sign)
      ∧ (∃ e rest, u.sensor.ring = e :: rest
          ∧ t.sensor.ring = { e with reversal := flag } :: rest)
      ∧ (s.link.slots.report = .empty → ∃ p, t.link.slots.report =
          .armed { body := .report p, sampleTime := q.sampleTime, effectTime := none } 0
          ∧ p.seq = s.link.seqs.report ∧ p.state = 5 ∧ p.command = BitVec.ofInt 16 u5
          ∧ p.angle = BitVec.ofInt 16 smp.angle ∧ p.rate = BitVec.ofInt 16 smp.rate)

/-- BLEND_COMPLETE (R142, R141): the ENGAGED sample that brings the blend count to 64 ends the blend: the
effective gains are the to-gains and RAMPING is clear. STRAIN_MARK (R123, R124): the hundredth ENGAGED
sample in a row clamped at an edge of the window brings the strain counter to 100 and sets STRAINED on
the page in use. -/
def Obligations.BlendsEndAndStrainIsMarked : Prop :=
  ∀ (s : State) (q : Request) (tr : SampleTrigger) (now : Time), s.ends q tr →
    let u := s.takenUp q tr now
    s.node.state = .engaged → u.node.state = .engaged →
    (s.gains.blend = 63 → u.gains.blend = 63 →
      s.drive.driveFault = false → anyTripped s = false → reversalCount u.sensor.ring ≤ 10 →
      ∃ t, exec (.blendComplete tr now) s = .next t ∧ t.node.state = .engaged ∧ t.gains.blend = 64
        ∧ effectiveGains t.gains = t.gains.toGains ∧ ramping t.gains = false
        ∧ t.gains.page = u.gains.page ∧ t.gains.regime = u.gains.regime)
    ∧ ∀ p, s.corr.strain = 99 → u.gains.page = some p →
      ((aimSample .engaged q.sampleTime u).1.atMin = true
        ∨ (aimSample .engaged q.sampleTime u).1.atMax = true) →
      ∃ t, exec (.strainMark tr now) s = .next t ∧ t.corr.strain = 100
        ∧ t.gains.pages[p].strained = true ∧ t.setup = s.setup

/-- REVERSAL_LIMIT (R153, R154): the command that brings the reversal count to 12 withdraws a page other
than 0 that the regime in use names, and page 0 blends in from k = 0 with the flags and s cleared, its
from-gains the effective gains as they stand after the blend count of that sample (R143); on page 0
UNSTABLE is raised. -/
def Obligations.TwelveReversalsWithdrawThePage : Prop :=
  ∀ (s : State) (q : Request) (tr : SampleTrigger) (now : Time) (p : PageNo) (r : Regime),
    s.ends q tr → s.node.state = .engaged →
    let u := s.takenUp q tr now
    let smp := s.sampleFor q tr now
    let a := aimSample .engaged q.sampleTime u
    let g := effectiveGains a.2.gains
    let cmd := loopCommand s.setup g a.1.target u.corr.targetPrev u.corr.commandPrev smp.angle smp.rate
    u.node.state = .engaged → s.drive.driveFault = false → anyTripped s = false →
    u.gains.page = some p → u.gains.regime = some r →
    reversalCount (writeReversal (reversalFlag g.lr cmd u.corr.sign) u.sensor.ring) = 12 →
    (p ≠ 0 → s.gains.pages[p].withdrawn = false → u.gains.entries[r].present = true →
      u.gains.entries[r].page = p →
      ∃ t, exec (.reversalLimit tr now) s = .next t ∧ t.node.state = .engaged
        ∧ t.gains.pages[p].withdrawn = true ∧ t.gains.page = some 0 ∧ t.gains.regime = some r
        ∧ t.gains.blend = 0
        ∧ t.gains.fromGains = effectiveGains { u.gains with blend := min 64 (u.gains.blend + 1) }
        ∧ t.gains.toGains = t.gains.pages[(0 : PageNo)].gains
        ∧ t.gains.pages[(0 : PageNo)].used = true ∧ t.corr.sign = 0
        ∧ reversalCount t.sensor.ring = 0 ∧ t.drive.lastCommand = cmd ∧ t.setup = s.setup)
    ∧ (p = 0 → ∃ t, exec (.reversalLimit tr now) s = .next t ∧ t.node.state = .fault
        ∧ t.node.record = { first := some .unstable, causes := 128, later := 0, firstUptime := now
                            enteredFrom := some .engaged }
        ∧ t.gains.page = some 0 ∧ t.drive.lastCommand = 0 ∧ t.setup = s.setup)

/-! ### Rules of the gain directory -/

/-- The resolution of a regime (R138): the entry's page where the entry is present and its page present
and not withdrawn, otherwise page 0; VISITED is set on the entry and USED on the page chosen. The
effective value of a gain (R141) is from + trunc((to − from) × k / 64) and lies between its from value
and its to value for k in 0..64, the from value at k = 0 and the to value at k = 64. -/
def Obligations.ResolutionAndEffectiveGains : Prop :=
  (∀ (g : GainDir) (r : Regime),
    let e := g.entries[r]
    let p := chosenPage g r
    (e.present = true → g.pages[e.page].present = true → g.pages[e.page].withdrawn = false →
      p = e.page)
    ∧ (e.present = false ∨ g.pages[e.page].present = false ∨ g.pages[e.page].withdrawn = true →
      p = 0)
    ∧ (resolveMarks g r).entries[r] = { e with visited := true }
    ∧ (resolveMarks g r).pages[p] = { g.pages[p] with used := true }
    ∧ (∀ j : Regime, j ≠ r → (resolveMarks g r).entries[j] = g.entries[j])
    ∧ ∀ j : PageNo, j ≠ p → (resolveMarks g r).pages[j] = g.pages[j])
  ∧ (∀ (x y : Int) (k : Nat), k ≤ 64 →
    effective x y k = x + Int.tdiv ((y - x) * k) 64 ∧ min x y ≤ effective x y k
      ∧ effective x y k ≤ max x y ∧ effective x y 0 = x ∧ effective x y 64 = y)
  ∧ ∀ g : GainDir, effectiveGains g =
    { kp := effective g.fromGains.kp g.toGains.kp g.blend
      kd := effective g.fromGains.kd g.toGains.kd g.blend
      lr := effective g.fromGains.lr g.toGains.lr g.blend
      la := effective g.fromGains.la g.toGains.la g.blend
      alpha := effective g.fromGains.alpha g.toGains.alpha g.blend
      rho := effective g.fromGains.rho g.toGains.rho g.blend }
end

