-- ==== Sys2Proof/Laws/State.lean ====
section
/-! SUPPORT. One lemma per field per update of State, each true by definition. -/

namespace Sys2Proof.Machine

@[simp] theorem State.setUptime_uptime (s : State) (x : Time) : (s.setUptime x).uptime = x := rfl
@[simp] theorem State.setUptime_ident (s : State) (x : Time) : (s.setUptime x).ident = s.ident := rfl
@[simp] theorem State.setUptime_node (s : State) (x : Time) : (s.setUptime x).node = s.node := rfl
@[simp] theorem State.setUptime_check (s : State) (x : Time) : (s.setUptime x).check = s.check := rfl
@[simp] theorem State.setUptime_link (s : State) (x : Time) : (s.setUptime x).link = s.link := rfl
@[simp] theorem State.setUptime_peers (s : State) (x : Time) : (s.setUptime x).peers = s.peers := rfl
@[simp] theorem State.setUptime_sensor (s : State) (x : Time) : (s.setUptime x).sensor = s.sensor := rfl
@[simp] theorem State.setUptime_drive (s : State) (x : Time) : (s.setUptime x).drive = s.drive := rfl
@[simp] theorem State.setUptime_vref (s : State) (x : Time) : (s.setUptime x).vref = s.vref := rfl
@[simp] theorem State.setUptime_corr (s : State) (x : Time) : (s.setUptime x).corr = s.corr := rfl
@[simp] theorem State.setUptime_gains (s : State) (x : Time) : (s.setUptime x).gains = s.gains := rfl
@[simp] theorem State.setUptime_console (s : State) (x : Time) : (s.setUptime x).console = s.console := rfl
@[simp] theorem State.setUptime_setup (s : State) (x : Time) : (s.setUptime x).setup = s.setup := rfl
@[simp] theorem State.setUptime_pins (s : State) (x : Time) : (s.setUptime x).pins = s.pins := rfl
@[simp] theorem State.setUptime_ledPhase (s : State) (x : Time) : (s.setUptime x).ledPhase = s.ledPhase := rfl
@[simp] theorem State.setUptime_choices (s : State) (x : Time) : (s.setUptime x).choices = s.choices := rfl
@[simp] theorem State.setUptime_pending (s : State) (x : Time) : (s.setUptime x).pending = s.pending := rfl

@[simp] theorem State.setIdent_uptime (s : State) (x : Identity) : (s.setIdent x).uptime = s.uptime := rfl
@[simp] theorem State.setIdent_ident (s : State) (x : Identity) : (s.setIdent x).ident = x := rfl
@[simp] theorem State.setIdent_node (s : State) (x : Identity) : (s.setIdent x).node = s.node := rfl
@[simp] theorem State.setIdent_check (s : State) (x : Identity) : (s.setIdent x).check = s.check := rfl
@[simp] theorem State.setIdent_link (s : State) (x : Identity) : (s.setIdent x).link = s.link := rfl
@[simp] theorem State.setIdent_peers (s : State) (x : Identity) : (s.setIdent x).peers = s.peers := rfl
@[simp] theorem State.setIdent_sensor (s : State) (x : Identity) : (s.setIdent x).sensor = s.sensor := rfl
@[simp] theorem State.setIdent_drive (s : State) (x : Identity) : (s.setIdent x).drive = s.drive := rfl
@[simp] theorem State.setIdent_vref (s : State) (x : Identity) : (s.setIdent x).vref = s.vref := rfl
@[simp] theorem State.setIdent_corr (s : State) (x : Identity) : (s.setIdent x).corr = s.corr := rfl
@[simp] theorem State.setIdent_gains (s : State) (x : Identity) : (s.setIdent x).gains = s.gains := rfl
@[simp] theorem State.setIdent_console (s : State) (x : Identity) : (s.setIdent x).console = s.console := rfl
@[simp] theorem State.setIdent_setup (s : State) (x : Identity) : (s.setIdent x).setup = s.setup := rfl
@[simp] theorem State.setIdent_pins (s : State) (x : Identity) : (s.setIdent x).pins = s.pins := rfl
@[simp] theorem State.setIdent_ledPhase (s : State) (x : Identity) : (s.setIdent x).ledPhase = s.ledPhase := rfl
@[simp] theorem State.setIdent_choices (s : State) (x : Identity) : (s.setIdent x).choices = s.choices := rfl
@[simp] theorem State.setIdent_pending (s : State) (x : Identity) : (s.setIdent x).pending = s.pending := rfl

@[simp] theorem State.setNode_uptime (s : State) (x : NodeCtl) : (s.setNode x).uptime = s.uptime := rfl
@[simp] theorem State.setNode_ident (s : State) (x : NodeCtl) : (s.setNode x).ident = s.ident := rfl
@[simp] theorem State.setNode_node (s : State) (x : NodeCtl) : (s.setNode x).node = x := rfl
@[simp] theorem State.setNode_check (s : State) (x : NodeCtl) : (s.setNode x).check = s.check := rfl
@[simp] theorem State.setNode_link (s : State) (x : NodeCtl) : (s.setNode x).link = s.link := rfl
@[simp] theorem State.setNode_peers (s : State) (x : NodeCtl) : (s.setNode x).peers = s.peers := rfl
@[simp] theorem State.setNode_sensor (s : State) (x : NodeCtl) : (s.setNode x).sensor = s.sensor := rfl
@[simp] theorem State.setNode_drive (s : State) (x : NodeCtl) : (s.setNode x).drive = s.drive := rfl
@[simp] theorem State.setNode_vref (s : State) (x : NodeCtl) : (s.setNode x).vref = s.vref := rfl
@[simp] theorem State.setNode_corr (s : State) (x : NodeCtl) : (s.setNode x).corr = s.corr := rfl
@[simp] theorem State.setNode_gains (s : State) (x : NodeCtl) : (s.setNode x).gains = s.gains := rfl
@[simp] theorem State.setNode_console (s : State) (x : NodeCtl) : (s.setNode x).console = s.console := rfl
@[simp] theorem State.setNode_setup (s : State) (x : NodeCtl) : (s.setNode x).setup = s.setup := rfl
@[simp] theorem State.setNode_pins (s : State) (x : NodeCtl) : (s.setNode x).pins = s.pins := rfl
@[simp] theorem State.setNode_ledPhase (s : State) (x : NodeCtl) : (s.setNode x).ledPhase = s.ledPhase := rfl
@[simp] theorem State.setNode_choices (s : State) (x : NodeCtl) : (s.setNode x).choices = s.choices := rfl
@[simp] theorem State.setNode_pending (s : State) (x : NodeCtl) : (s.setNode x).pending = s.pending := rfl

@[simp] theorem State.setCheck_uptime (s : State) (x : SelfCheck) : (s.setCheck x).uptime = s.uptime := rfl
@[simp] theorem State.setCheck_ident (s : State) (x : SelfCheck) : (s.setCheck x).ident = s.ident := rfl
@[simp] theorem State.setCheck_node (s : State) (x : SelfCheck) : (s.setCheck x).node = s.node := rfl
@[simp] theorem State.setCheck_check (s : State) (x : SelfCheck) : (s.setCheck x).check = x := rfl
@[simp] theorem State.setCheck_link (s : State) (x : SelfCheck) : (s.setCheck x).link = s.link := rfl
@[simp] theorem State.setCheck_peers (s : State) (x : SelfCheck) : (s.setCheck x).peers = s.peers := rfl
@[simp] theorem State.setCheck_sensor (s : State) (x : SelfCheck) : (s.setCheck x).sensor = s.sensor := rfl
@[simp] theorem State.setCheck_drive (s : State) (x : SelfCheck) : (s.setCheck x).drive = s.drive := rfl
@[simp] theorem State.setCheck_vref (s : State) (x : SelfCheck) : (s.setCheck x).vref = s.vref := rfl
@[simp] theorem State.setCheck_corr (s : State) (x : SelfCheck) : (s.setCheck x).corr = s.corr := rfl
@[simp] theorem State.setCheck_gains (s : State) (x : SelfCheck) : (s.setCheck x).gains = s.gains := rfl
@[simp] theorem State.setCheck_console (s : State) (x : SelfCheck) : (s.setCheck x).console = s.console := rfl
@[simp] theorem State.setCheck_setup (s : State) (x : SelfCheck) : (s.setCheck x).setup = s.setup := rfl
@[simp] theorem State.setCheck_pins (s : State) (x : SelfCheck) : (s.setCheck x).pins = s.pins := rfl
@[simp] theorem State.setCheck_ledPhase (s : State) (x : SelfCheck) : (s.setCheck x).ledPhase = s.ledPhase := rfl
@[simp] theorem State.setCheck_choices (s : State) (x : SelfCheck) : (s.setCheck x).choices = s.choices := rfl
@[simp] theorem State.setCheck_pending (s : State) (x : SelfCheck) : (s.setCheck x).pending = s.pending := rfl

@[simp] theorem State.setLink_uptime (s : State) (x : Link) : (s.setLink x).uptime = s.uptime := rfl
@[simp] theorem State.setLink_ident (s : State) (x : Link) : (s.setLink x).ident = s.ident := rfl
@[simp] theorem State.setLink_node (s : State) (x : Link) : (s.setLink x).node = s.node := rfl
@[simp] theorem State.setLink_check (s : State) (x : Link) : (s.setLink x).check = s.check := rfl
@[simp] theorem State.setLink_link (s : State) (x : Link) : (s.setLink x).link = x := rfl
@[simp] theorem State.setLink_peers (s : State) (x : Link) : (s.setLink x).peers = s.peers := rfl
@[simp] theorem State.setLink_sensor (s : State) (x : Link) : (s.setLink x).sensor = s.sensor := rfl
@[simp] theorem State.setLink_drive (s : State) (x : Link) : (s.setLink x).drive = s.drive := rfl
@[simp] theorem State.setLink_vref (s : State) (x : Link) : (s.setLink x).vref = s.vref := rfl
@[simp] theorem State.setLink_corr (s : State) (x : Link) : (s.setLink x).corr = s.corr := rfl
@[simp] theorem State.setLink_gains (s : State) (x : Link) : (s.setLink x).gains = s.gains := rfl
@[simp] theorem State.setLink_console (s : State) (x : Link) : (s.setLink x).console = s.console := rfl
@[simp] theorem State.setLink_setup (s : State) (x : Link) : (s.setLink x).setup = s.setup := rfl
@[simp] theorem State.setLink_pins (s : State) (x : Link) : (s.setLink x).pins = s.pins := rfl
@[simp] theorem State.setLink_ledPhase (s : State) (x : Link) : (s.setLink x).ledPhase = s.ledPhase := rfl
@[simp] theorem State.setLink_choices (s : State) (x : Link) : (s.setLink x).choices = s.choices := rfl
@[simp] theorem State.setLink_pending (s : State) (x : Link) : (s.setLink x).pending = s.pending := rfl

@[simp] theorem State.setPeers_uptime (s : State) (x : Peers) : (s.setPeers x).uptime = s.uptime := rfl
@[simp] theorem State.setPeers_ident (s : State) (x : Peers) : (s.setPeers x).ident = s.ident := rfl
@[simp] theorem State.setPeers_node (s : State) (x : Peers) : (s.setPeers x).node = s.node := rfl
@[simp] theorem State.setPeers_check (s : State) (x : Peers) : (s.setPeers x).check = s.check := rfl
@[simp] theorem State.setPeers_link (s : State) (x : Peers) : (s.setPeers x).link = s.link := rfl
@[simp] theorem State.setPeers_peers (s : State) (x : Peers) : (s.setPeers x).peers = x := rfl
@[simp] theorem State.setPeers_sensor (s : State) (x : Peers) : (s.setPeers x).sensor = s.sensor := rfl
@[simp] theorem State.setPeers_drive (s : State) (x : Peers) : (s.setPeers x).drive = s.drive := rfl
@[simp] theorem State.setPeers_vref (s : State) (x : Peers) : (s.setPeers x).vref = s.vref := rfl
@[simp] theorem State.setPeers_corr (s : State) (x : Peers) : (s.setPeers x).corr = s.corr := rfl
@[simp] theorem State.setPeers_gains (s : State) (x : Peers) : (s.setPeers x).gains = s.gains := rfl
@[simp] theorem State.setPeers_console (s : State) (x : Peers) : (s.setPeers x).console = s.console := rfl
@[simp] theorem State.setPeers_setup (s : State) (x : Peers) : (s.setPeers x).setup = s.setup := rfl
@[simp] theorem State.setPeers_pins (s : State) (x : Peers) : (s.setPeers x).pins = s.pins := rfl
@[simp] theorem State.setPeers_ledPhase (s : State) (x : Peers) : (s.setPeers x).ledPhase = s.ledPhase := rfl
@[simp] theorem State.setPeers_choices (s : State) (x : Peers) : (s.setPeers x).choices = s.choices := rfl
@[simp] theorem State.setPeers_pending (s : State) (x : Peers) : (s.setPeers x).pending = s.pending := rfl

@[simp] theorem State.setSensor_uptime (s : State) (x : Sensor) : (s.setSensor x).uptime = s.uptime := rfl
@[simp] theorem State.setSensor_ident (s : State) (x : Sensor) : (s.setSensor x).ident = s.ident := rfl
@[simp] theorem State.setSensor_node (s : State) (x : Sensor) : (s.setSensor x).node = s.node := rfl
@[simp] theorem State.setSensor_check (s : State) (x : Sensor) : (s.setSensor x).check = s.check := rfl
@[simp] theorem State.setSensor_link (s : State) (x : Sensor) : (s.setSensor x).link = s.link := rfl
@[simp] theorem State.setSensor_peers (s : State) (x : Sensor) : (s.setSensor x).peers = s.peers := rfl
@[simp] theorem State.setSensor_sensor (s : State) (x : Sensor) : (s.setSensor x).sensor = x := rfl
@[simp] theorem State.setSensor_drive (s : State) (x : Sensor) : (s.setSensor x).drive = s.drive := rfl
@[simp] theorem State.setSensor_vref (s : State) (x : Sensor) : (s.setSensor x).vref = s.vref := rfl
@[simp] theorem State.setSensor_corr (s : State) (x : Sensor) : (s.setSensor x).corr = s.corr := rfl
@[simp] theorem State.setSensor_gains (s : State) (x : Sensor) : (s.setSensor x).gains = s.gains := rfl
@[simp] theorem State.setSensor_console (s : State) (x : Sensor) : (s.setSensor x).console = s.console := rfl
@[simp] theorem State.setSensor_setup (s : State) (x : Sensor) : (s.setSensor x).setup = s.setup := rfl
@[simp] theorem State.setSensor_pins (s : State) (x : Sensor) : (s.setSensor x).pins = s.pins := rfl
@[simp] theorem State.setSensor_ledPhase (s : State) (x : Sensor) : (s.setSensor x).ledPhase = s.ledPhase := rfl
@[simp] theorem State.setSensor_choices (s : State) (x : Sensor) : (s.setSensor x).choices = s.choices := rfl
@[simp] theorem State.setSensor_pending (s : State) (x : Sensor) : (s.setSensor x).pending = s.pending := rfl

@[simp] theorem State.setDrive_uptime (s : State) (x : Drive) : (s.setDrive x).uptime = s.uptime := rfl
@[simp] theorem State.setDrive_ident (s : State) (x : Drive) : (s.setDrive x).ident = s.ident := rfl
@[simp] theorem State.setDrive_node (s : State) (x : Drive) : (s.setDrive x).node = s.node := rfl
@[simp] theorem State.setDrive_check (s : State) (x : Drive) : (s.setDrive x).check = s.check := rfl
@[simp] theorem State.setDrive_link (s : State) (x : Drive) : (s.setDrive x).link = s.link := rfl
@[simp] theorem State.setDrive_peers (s : State) (x : Drive) : (s.setDrive x).peers = s.peers := rfl
@[simp] theorem State.setDrive_sensor (s : State) (x : Drive) : (s.setDrive x).sensor = s.sensor := rfl
@[simp] theorem State.setDrive_drive (s : State) (x : Drive) : (s.setDrive x).drive = x := rfl
@[simp] theorem State.setDrive_vref (s : State) (x : Drive) : (s.setDrive x).vref = s.vref := rfl
@[simp] theorem State.setDrive_corr (s : State) (x : Drive) : (s.setDrive x).corr = s.corr := rfl
@[simp] theorem State.setDrive_gains (s : State) (x : Drive) : (s.setDrive x).gains = s.gains := rfl
@[simp] theorem State.setDrive_console (s : State) (x : Drive) : (s.setDrive x).console = s.console := rfl
@[simp] theorem State.setDrive_setup (s : State) (x : Drive) : (s.setDrive x).setup = s.setup := rfl
@[simp] theorem State.setDrive_pins (s : State) (x : Drive) : (s.setDrive x).pins = s.pins := rfl
@[simp] theorem State.setDrive_ledPhase (s : State) (x : Drive) : (s.setDrive x).ledPhase = s.ledPhase := rfl
@[simp] theorem State.setDrive_choices (s : State) (x : Drive) : (s.setDrive x).choices = s.choices := rfl
@[simp] theorem State.setDrive_pending (s : State) (x : Drive) : (s.setDrive x).pending = s.pending := rfl

@[simp] theorem State.setVref_uptime (s : State) (x : VehicleRef) : (s.setVref x).uptime = s.uptime := rfl
@[simp] theorem State.setVref_ident (s : State) (x : VehicleRef) : (s.setVref x).ident = s.ident := rfl
@[simp] theorem State.setVref_node (s : State) (x : VehicleRef) : (s.setVref x).node = s.node := rfl
@[simp] theorem State.setVref_check (s : State) (x : VehicleRef) : (s.setVref x).check = s.check := rfl
@[simp] theorem State.setVref_link (s : State) (x : VehicleRef) : (s.setVref x).link = s.link := rfl
@[simp] theorem State.setVref_peers (s : State) (x : VehicleRef) : (s.setVref x).peers = s.peers := rfl
@[simp] theorem State.setVref_sensor (s : State) (x : VehicleRef) : (s.setVref x).sensor = s.sensor := rfl
@[simp] theorem State.setVref_drive (s : State) (x : VehicleRef) : (s.setVref x).drive = s.drive := rfl
@[simp] theorem State.setVref_vref (s : State) (x : VehicleRef) : (s.setVref x).vref = x := rfl
@[simp] theorem State.setVref_corr (s : State) (x : VehicleRef) : (s.setVref x).corr = s.corr := rfl
@[simp] theorem State.setVref_gains (s : State) (x : VehicleRef) : (s.setVref x).gains = s.gains := rfl
@[simp] theorem State.setVref_console (s : State) (x : VehicleRef) : (s.setVref x).console = s.console := rfl
@[simp] theorem State.setVref_setup (s : State) (x : VehicleRef) : (s.setVref x).setup = s.setup := rfl
@[simp] theorem State.setVref_pins (s : State) (x : VehicleRef) : (s.setVref x).pins = s.pins := rfl
@[simp] theorem State.setVref_ledPhase (s : State) (x : VehicleRef) : (s.setVref x).ledPhase = s.ledPhase := rfl
@[simp] theorem State.setVref_choices (s : State) (x : VehicleRef) : (s.setVref x).choices = s.choices := rfl
@[simp] theorem State.setVref_pending (s : State) (x : VehicleRef) : (s.setVref x).pending = s.pending := rfl

@[simp] theorem State.setCorr_uptime (s : State) (x : Correction) : (s.setCorr x).uptime = s.uptime := rfl
@[simp] theorem State.setCorr_ident (s : State) (x : Correction) : (s.setCorr x).ident = s.ident := rfl
@[simp] theorem State.setCorr_node (s : State) (x : Correction) : (s.setCorr x).node = s.node := rfl
@[simp] theorem State.setCorr_check (s : State) (x : Correction) : (s.setCorr x).check = s.check := rfl
@[simp] theorem State.setCorr_link (s : State) (x : Correction) : (s.setCorr x).link = s.link := rfl
@[simp] theorem State.setCorr_peers (s : State) (x : Correction) : (s.setCorr x).peers = s.peers := rfl
@[simp] theorem State.setCorr_sensor (s : State) (x : Correction) : (s.setCorr x).sensor = s.sensor := rfl
@[simp] theorem State.setCorr_drive (s : State) (x : Correction) : (s.setCorr x).drive = s.drive := rfl
@[simp] theorem State.setCorr_vref (s : State) (x : Correction) : (s.setCorr x).vref = s.vref := rfl
@[simp] theorem State.setCorr_corr (s : State) (x : Correction) : (s.setCorr x).corr = x := rfl
@[simp] theorem State.setCorr_gains (s : State) (x : Correction) : (s.setCorr x).gains = s.gains := rfl
@[simp] theorem State.setCorr_console (s : State) (x : Correction) : (s.setCorr x).console = s.console := rfl
@[simp] theorem State.setCorr_setup (s : State) (x : Correction) : (s.setCorr x).setup = s.setup := rfl
@[simp] theorem State.setCorr_pins (s : State) (x : Correction) : (s.setCorr x).pins = s.pins := rfl
@[simp] theorem State.setCorr_ledPhase (s : State) (x : Correction) : (s.setCorr x).ledPhase = s.ledPhase := rfl
@[simp] theorem State.setCorr_choices (s : State) (x : Correction) : (s.setCorr x).choices = s.choices := rfl
@[simp] theorem State.setCorr_pending (s : State) (x : Correction) : (s.setCorr x).pending = s.pending := rfl

@[simp] theorem State.setGains_uptime (s : State) (x : GainDir) : (s.setGains x).uptime = s.uptime := rfl
@[simp] theorem State.setGains_ident (s : State) (x : GainDir) : (s.setGains x).ident = s.ident := rfl
@[simp] theorem State.setGains_node (s : State) (x : GainDir) : (s.setGains x).node = s.node := rfl
@[simp] theorem State.setGains_check (s : State) (x : GainDir) : (s.setGains x).check = s.check := rfl
@[simp] theorem State.setGains_link (s : State) (x : GainDir) : (s.setGains x).link = s.link := rfl
@[simp] theorem State.setGains_peers (s : State) (x : GainDir) : (s.setGains x).peers = s.peers := rfl
@[simp] theorem State.setGains_sensor (s : State) (x : GainDir) : (s.setGains x).sensor = s.sensor := rfl
@[simp] theorem State.setGains_drive (s : State) (x : GainDir) : (s.setGains x).drive = s.drive := rfl
@[simp] theorem State.setGains_vref (s : State) (x : GainDir) : (s.setGains x).vref = s.vref := rfl
@[simp] theorem State.setGains_corr (s : State) (x : GainDir) : (s.setGains x).corr = s.corr := rfl
@[simp] theorem State.setGains_gains (s : State) (x : GainDir) : (s.setGains x).gains = x := rfl
@[simp] theorem State.setGains_console (s : State) (x : GainDir) : (s.setGains x).console = s.console := rfl
@[simp] theorem State.setGains_setup (s : State) (x : GainDir) : (s.setGains x).setup = s.setup := rfl
@[simp] theorem State.setGains_pins (s : State) (x : GainDir) : (s.setGains x).pins = s.pins := rfl
@[simp] theorem State.setGains_ledPhase (s : State) (x : GainDir) : (s.setGains x).ledPhase = s.ledPhase := rfl
@[simp] theorem State.setGains_choices (s : State) (x : GainDir) : (s.setGains x).choices = s.choices := rfl
@[simp] theorem State.setGains_pending (s : State) (x : GainDir) : (s.setGains x).pending = s.pending := rfl

@[simp] theorem State.setConsole_uptime (s : State) (x : Console) : (s.setConsole x).uptime = s.uptime := rfl
@[simp] theorem State.setConsole_ident (s : State) (x : Console) : (s.setConsole x).ident = s.ident := rfl
@[simp] theorem State.setConsole_node (s : State) (x : Console) : (s.setConsole x).node = s.node := rfl
@[simp] theorem State.setConsole_check (s : State) (x : Console) : (s.setConsole x).check = s.check := rfl
@[simp] theorem State.setConsole_link (s : State) (x : Console) : (s.setConsole x).link = s.link := rfl
@[simp] theorem State.setConsole_peers (s : State) (x : Console) : (s.setConsole x).peers = s.peers := rfl
@[simp] theorem State.setConsole_sensor (s : State) (x : Console) : (s.setConsole x).sensor = s.sensor := rfl
@[simp] theorem State.setConsole_drive (s : State) (x : Console) : (s.setConsole x).drive = s.drive := rfl
@[simp] theorem State.setConsole_vref (s : State) (x : Console) : (s.setConsole x).vref = s.vref := rfl
@[simp] theorem State.setConsole_corr (s : State) (x : Console) : (s.setConsole x).corr = s.corr := rfl
@[simp] theorem State.setConsole_gains (s : State) (x : Console) : (s.setConsole x).gains = s.gains := rfl
@[simp] theorem State.setConsole_console (s : State) (x : Console) : (s.setConsole x).console = x := rfl
@[simp] theorem State.setConsole_setup (s : State) (x : Console) : (s.setConsole x).setup = s.setup := rfl
@[simp] theorem State.setConsole_pins (s : State) (x : Console) : (s.setConsole x).pins = s.pins := rfl
@[simp] theorem State.setConsole_ledPhase (s : State) (x : Console) : (s.setConsole x).ledPhase = s.ledPhase := rfl
@[simp] theorem State.setConsole_choices (s : State) (x : Console) : (s.setConsole x).choices = s.choices := rfl
@[simp] theorem State.setConsole_pending (s : State) (x : Console) : (s.setConsole x).pending = s.pending := rfl

@[simp] theorem State.setSetup_uptime (s : State) (x : Setup) : (s.setSetup x).uptime = s.uptime := rfl
@[simp] theorem State.setSetup_ident (s : State) (x : Setup) : (s.setSetup x).ident = s.ident := rfl
@[simp] theorem State.setSetup_node (s : State) (x : Setup) : (s.setSetup x).node = s.node := rfl
@[simp] theorem State.setSetup_check (s : State) (x : Setup) : (s.setSetup x).check = s.check := rfl
@[simp] theorem State.setSetup_link (s : State) (x : Setup) : (s.setSetup x).link = s.link := rfl
@[simp] theorem State.setSetup_peers (s : State) (x : Setup) : (s.setSetup x).peers = s.peers := rfl
@[simp] theorem State.setSetup_sensor (s : State) (x : Setup) : (s.setSetup x).sensor = s.sensor := rfl
@[simp] theorem State.setSetup_drive (s : State) (x : Setup) : (s.setSetup x).drive = s.drive := rfl
@[simp] theorem State.setSetup_vref (s : State) (x : Setup) : (s.setSetup x).vref = s.vref := rfl
@[simp] theorem State.setSetup_corr (s : State) (x : Setup) : (s.setSetup x).corr = s.corr := rfl
@[simp] theorem State.setSetup_gains (s : State) (x : Setup) : (s.setSetup x).gains = s.gains := rfl
@[simp] theorem State.setSetup_console (s : State) (x : Setup) : (s.setSetup x).console = s.console := rfl
@[simp] theorem State.setSetup_setup (s : State) (x : Setup) : (s.setSetup x).setup = x := rfl
@[simp] theorem State.setSetup_pins (s : State) (x : Setup) : (s.setSetup x).pins = s.pins := rfl
@[simp] theorem State.setSetup_ledPhase (s : State) (x : Setup) : (s.setSetup x).ledPhase = s.ledPhase := rfl
@[simp] theorem State.setSetup_choices (s : State) (x : Setup) : (s.setSetup x).choices = s.choices := rfl
@[simp] theorem State.setSetup_pending (s : State) (x : Setup) : (s.setSetup x).pending = s.pending := rfl

@[simp] theorem State.setPins_uptime (s : State) (x : Pins) : (s.setPins x).uptime = s.uptime := rfl
@[simp] theorem State.setPins_ident (s : State) (x : Pins) : (s.setPins x).ident = s.ident := rfl
@[simp] theorem State.setPins_node (s : State) (x : Pins) : (s.setPins x).node = s.node := rfl
@[simp] theorem State.setPins_check (s : State) (x : Pins) : (s.setPins x).check = s.check := rfl
@[simp] theorem State.setPins_link (s : State) (x : Pins) : (s.setPins x).link = s.link := rfl
@[simp] theorem State.setPins_peers (s : State) (x : Pins) : (s.setPins x).peers = s.peers := rfl
@[simp] theorem State.setPins_sensor (s : State) (x : Pins) : (s.setPins x).sensor = s.sensor := rfl
@[simp] theorem State.setPins_drive (s : State) (x : Pins) : (s.setPins x).drive = s.drive := rfl
@[simp] theorem State.setPins_vref (s : State) (x : Pins) : (s.setPins x).vref = s.vref := rfl
@[simp] theorem State.setPins_corr (s : State) (x : Pins) : (s.setPins x).corr = s.corr := rfl
@[simp] theorem State.setPins_gains (s : State) (x : Pins) : (s.setPins x).gains = s.gains := rfl
@[simp] theorem State.setPins_console (s : State) (x : Pins) : (s.setPins x).console = s.console := rfl
@[simp] theorem State.setPins_setup (s : State) (x : Pins) : (s.setPins x).setup = s.setup := rfl
@[simp] theorem State.setPins_pins (s : State) (x : Pins) : (s.setPins x).pins = x := rfl
@[simp] theorem State.setPins_ledPhase (s : State) (x : Pins) : (s.setPins x).ledPhase = s.ledPhase := rfl
@[simp] theorem State.setPins_choices (s : State) (x : Pins) : (s.setPins x).choices = s.choices := rfl
@[simp] theorem State.setPins_pending (s : State) (x : Pins) : (s.setPins x).pending = s.pending := rfl

@[simp] theorem State.setLedPhase_uptime (s : State) (x : Nat) : (s.setLedPhase x).uptime = s.uptime := rfl
@[simp] theorem State.setLedPhase_ident (s : State) (x : Nat) : (s.setLedPhase x).ident = s.ident := rfl
@[simp] theorem State.setLedPhase_node (s : State) (x : Nat) : (s.setLedPhase x).node = s.node := rfl
@[simp] theorem State.setLedPhase_check (s : State) (x : Nat) : (s.setLedPhase x).check = s.check := rfl
@[simp] theorem State.setLedPhase_link (s : State) (x : Nat) : (s.setLedPhase x).link = s.link := rfl
@[simp] theorem State.setLedPhase_peers (s : State) (x : Nat) : (s.setLedPhase x).peers = s.peers := rfl
@[simp] theorem State.setLedPhase_sensor (s : State) (x : Nat) : (s.setLedPhase x).sensor = s.sensor := rfl
@[simp] theorem State.setLedPhase_drive (s : State) (x : Nat) : (s.setLedPhase x).drive = s.drive := rfl
@[simp] theorem State.setLedPhase_vref (s : State) (x : Nat) : (s.setLedPhase x).vref = s.vref := rfl
@[simp] theorem State.setLedPhase_corr (s : State) (x : Nat) : (s.setLedPhase x).corr = s.corr := rfl
@[simp] theorem State.setLedPhase_gains (s : State) (x : Nat) : (s.setLedPhase x).gains = s.gains := rfl
@[simp] theorem State.setLedPhase_console (s : State) (x : Nat) : (s.setLedPhase x).console = s.console := rfl
@[simp] theorem State.setLedPhase_setup (s : State) (x : Nat) : (s.setLedPhase x).setup = s.setup := rfl
@[simp] theorem State.setLedPhase_pins (s : State) (x : Nat) : (s.setLedPhase x).pins = s.pins := rfl
@[simp] theorem State.setLedPhase_ledPhase (s : State) (x : Nat) : (s.setLedPhase x).ledPhase = x := rfl
@[simp] theorem State.setLedPhase_choices (s : State) (x : Nat) : (s.setLedPhase x).choices = s.choices := rfl
@[simp] theorem State.setLedPhase_pending (s : State) (x : Nat) : (s.setLedPhase x).pending = s.pending := rfl

@[simp] theorem State.setChoices_uptime (s : State) (x : Nat) : (s.setChoices x).uptime = s.uptime := rfl
@[simp] theorem State.setChoices_ident (s : State) (x : Nat) : (s.setChoices x).ident = s.ident := rfl
@[simp] theorem State.setChoices_node (s : State) (x : Nat) : (s.setChoices x).node = s.node := rfl
@[simp] theorem State.setChoices_check (s : State) (x : Nat) : (s.setChoices x).check = s.check := rfl
@[simp] theorem State.setChoices_link (s : State) (x : Nat) : (s.setChoices x).link = s.link := rfl
@[simp] theorem State.setChoices_peers (s : State) (x : Nat) : (s.setChoices x).peers = s.peers := rfl
@[simp] theorem State.setChoices_sensor (s : State) (x : Nat) : (s.setChoices x).sensor = s.sensor := rfl
@[simp] theorem State.setChoices_drive (s : State) (x : Nat) : (s.setChoices x).drive = s.drive := rfl
@[simp] theorem State.setChoices_vref (s : State) (x : Nat) : (s.setChoices x).vref = s.vref := rfl
@[simp] theorem State.setChoices_corr (s : State) (x : Nat) : (s.setChoices x).corr = s.corr := rfl
@[simp] theorem State.setChoices_gains (s : State) (x : Nat) : (s.setChoices x).gains = s.gains := rfl
@[simp] theorem State.setChoices_console (s : State) (x : Nat) : (s.setChoices x).console = s.console := rfl
@[simp] theorem State.setChoices_setup (s : State) (x : Nat) : (s.setChoices x).setup = s.setup := rfl
@[simp] theorem State.setChoices_pins (s : State) (x : Nat) : (s.setChoices x).pins = s.pins := rfl
@[simp] theorem State.setChoices_ledPhase (s : State) (x : Nat) : (s.setChoices x).ledPhase = s.ledPhase := rfl
@[simp] theorem State.setChoices_choices (s : State) (x : Nat) : (s.setChoices x).choices = x := rfl
@[simp] theorem State.setChoices_pending (s : State) (x : Nat) : (s.setChoices x).pending = s.pending := rfl

@[simp] theorem State.setPending_uptime (s : State) (x : List Instr) : (s.setPending x).uptime = s.uptime := rfl
@[simp] theorem State.setPending_ident (s : State) (x : List Instr) : (s.setPending x).ident = s.ident := rfl
@[simp] theorem State.setPending_node (s : State) (x : List Instr) : (s.setPending x).node = s.node := rfl
@[simp] theorem State.setPending_check (s : State) (x : List Instr) : (s.setPending x).check = s.check := rfl
@[simp] theorem State.setPending_link (s : State) (x : List Instr) : (s.setPending x).link = s.link := rfl
@[simp] theorem State.setPending_peers (s : State) (x : List Instr) : (s.setPending x).peers = s.peers := rfl
@[simp] theorem State.setPending_sensor (s : State) (x : List Instr) : (s.setPending x).sensor = s.sensor := rfl
@[simp] theorem State.setPending_drive (s : State) (x : List Instr) : (s.setPending x).drive = s.drive := rfl
@[simp] theorem State.setPending_vref (s : State) (x : List Instr) : (s.setPending x).vref = s.vref := rfl
@[simp] theorem State.setPending_corr (s : State) (x : List Instr) : (s.setPending x).corr = s.corr := rfl
@[simp] theorem State.setPending_gains (s : State) (x : List Instr) : (s.setPending x).gains = s.gains := rfl
@[simp] theorem State.setPending_console (s : State) (x : List Instr) : (s.setPending x).console = s.console := rfl
@[simp] theorem State.setPending_setup (s : State) (x : List Instr) : (s.setPending x).setup = s.setup := rfl
@[simp] theorem State.setPending_pins (s : State) (x : List Instr) : (s.setPending x).pins = s.pins := rfl
@[simp] theorem State.setPending_ledPhase (s : State) (x : List Instr) : (s.setPending x).ledPhase = s.ledPhase := rfl
@[simp] theorem State.setPending_choices (s : State) (x : List Instr) : (s.setPending x).choices = s.choices := rfl
@[simp] theorem State.setPending_pending (s : State) (x : List Instr) : (s.setPending x).pending = x := rfl

end Sys2Proof.Machine
end

