-- ==== Sys2Proof/Laws/Ops.lean ====
section
/-! SUPPORT. The frames of the shared operations: what a change of state, a raised cause, an entry or a regime switch leaves as it was. -/

namespace Sys2Proof.Machine

variable (s : State)

/-! #### moveTo -/

@[simp] theorem moveTo_uptime (n : NodeState) : (moveTo n s).uptime = s.uptime := by
  unfold moveTo; try dsimp only
  all_goals ((repeat' split) <;> simp)
@[simp] theorem moveTo_ident (n : NodeState) : (moveTo n s).ident = s.ident := by
  unfold moveTo; try dsimp only
  all_goals ((repeat' split) <;> simp)
@[simp] theorem moveTo_check (n : NodeState) : (moveTo n s).check = s.check := by
  unfold moveTo; try dsimp only
  all_goals ((repeat' split) <;> simp)
@[simp] theorem moveTo_link (n : NodeState) : (moveTo n s).link = s.link := by
  unfold moveTo; try dsimp only
  all_goals ((repeat' split) <;> simp)
@[simp] theorem moveTo_peers (n : NodeState) : (moveTo n s).peers = s.peers := by
  unfold moveTo; try dsimp only
  all_goals ((repeat' split) <;> simp)
@[simp] theorem moveTo_vref (n : NodeState) : (moveTo n s).vref = s.vref := by
  unfold moveTo; try dsimp only
  all_goals ((repeat' split) <;> simp)
@[simp] theorem moveTo_console (n : NodeState) : (moveTo n s).console = s.console := by
  unfold moveTo; try dsimp only
  all_goals ((repeat' split) <;> simp)
@[simp] theorem moveTo_setup (n : NodeState) : (moveTo n s).setup = s.setup := by
  unfold moveTo; try dsimp only
  all_goals ((repeat' split) <;> simp)
@[simp] theorem moveTo_pins (n : NodeState) : (moveTo n s).pins = s.pins := by
  unfold moveTo; try dsimp only
  all_goals ((repeat' split) <;> simp)
@[simp] theorem moveTo_choices (n : NodeState) : (moveTo n s).choices = s.choices := by
  unfold moveTo; try dsimp only
  all_goals ((repeat' split) <;> simp)
@[simp] theorem moveTo_pending (n : NodeState) : (moveTo n s).pending = s.pending := by
  unfold moveTo; try dsimp only
  all_goals ((repeat' split) <;> simp)

/-! #### silenced -/

@[simp] theorem silenced_of_ne (r : Role) (l : Link) (hc : r ≠ .console) : silenced r l = l := by
  simp [silenced, hc]

/-- What falling silent does (R16, R170): the AIM and COMMAND slots of a CONSOLE are EMPTY, and nothing else
of the link changes at any role. -/
theorem silenced_eq (r : Role) (l : Link) :
    silenced r l = { l with slots := { l.slots with
      aim := if r = .console then .empty else l.slots.aim
      command := if r = .console then .empty else l.slots.command } } := by
  unfold silenced; split <;> rfl

/-! #### enterFault -/

@[simp] theorem enterFault_uptime (c : Cause) : (enterFault c s).uptime = s.uptime := by
  unfold enterFault; try dsimp only
  all_goals ((repeat' split) <;> simp)
@[simp] theorem enterFault_ident (c : Cause) : (enterFault c s).ident = s.ident := by
  unfold enterFault; try dsimp only
  all_goals ((repeat' split) <;> simp)
@[simp] theorem enterFault_check (c : Cause) : (enterFault c s).check = s.check := by
  unfold enterFault; try dsimp only
  all_goals ((repeat' split) <;> simp)
@[simp] theorem enterFault_link (c : Cause) :
    (enterFault c s).link = silenced s.ident.role s.link := by
  simp [enterFault]
@[simp] theorem enterFault_peers (c : Cause) : (enterFault c s).peers = s.peers := by
  unfold enterFault; try dsimp only
  all_goals ((repeat' split) <;> simp)
@[simp] theorem enterFault_vref (c : Cause) : (enterFault c s).vref = s.vref := by
  unfold enterFault; try dsimp only
  all_goals ((repeat' split) <;> simp)
@[simp] theorem enterFault_console (c : Cause) : (enterFault c s).console = s.console := by
  unfold enterFault; try dsimp only
  all_goals ((repeat' split) <;> simp)
@[simp] theorem enterFault_setup (c : Cause) : (enterFault c s).setup = s.setup := by
  unfold enterFault; try dsimp only
  all_goals ((repeat' split) <;> simp)
@[simp] theorem enterFault_pins (c : Cause) : (enterFault c s).pins = s.pins := by
  unfold enterFault; try dsimp only
  all_goals ((repeat' split) <;> simp)
@[simp] theorem enterFault_choices (c : Cause) : (enterFault c s).choices = s.choices := by
  unfold enterFault; try dsimp only
  all_goals ((repeat' split) <;> simp)
@[simp] theorem enterFault_pending (c : Cause) : (enterFault c s).pending = s.pending := by
  unfold enterFault; try dsimp only
  all_goals ((repeat' split) <;> simp)

/-! #### raise -/

@[simp] theorem raise_uptime (c : Cause) : (raise c s).uptime = s.uptime := by
  unfold raise; try dsimp only
  all_goals ((repeat' split) <;> simp)
@[simp] theorem raise_ident (c : Cause) : (raise c s).ident = s.ident := by
  unfold raise; try dsimp only
  all_goals ((repeat' split) <;> simp)
@[simp] theorem raise_check (c : Cause) : (raise c s).check = s.check := by
  unfold raise; try dsimp only
  all_goals ((repeat' split) <;> simp)
@[simp] theorem raise_link (c : Cause) (hc : s.ident.role ≠ .console) : (raise c s).link = s.link := by
  unfold raise; try dsimp only
  all_goals ((repeat' split) <;> simp [hc])
@[simp] theorem raise_peers (c : Cause) : (raise c s).peers = s.peers := by
  unfold raise; try dsimp only
  all_goals ((repeat' split) <;> simp)
@[simp] theorem raise_vref (c : Cause) : (raise c s).vref = s.vref := by
  unfold raise; try dsimp only
  all_goals ((repeat' split) <;> simp)
@[simp] theorem raise_console (c : Cause) : (raise c s).console = s.console := by
  unfold raise; try dsimp only
  all_goals ((repeat' split) <;> simp)
@[simp] theorem raise_setup (c : Cause) : (raise c s).setup = s.setup := by
  unfold raise; try dsimp only
  all_goals ((repeat' split) <;> simp)
@[simp] theorem raise_pins (c : Cause) : (raise c s).pins = s.pins := by
  unfold raise; try dsimp only
  all_goals ((repeat' split) <;> simp)
@[simp] theorem raise_choices (c : Cause) : (raise c s).choices = s.choices := by
  unfold raise; try dsimp only
  all_goals ((repeat' split) <;> simp)
@[simp] theorem raise_pending (c : Cause) : (raise c s).pending = s.pending := by
  unfold raise; try dsimp only
  all_goals ((repeat' split) <;> simp)

/-! #### raiseTwo -/

@[simp] theorem raiseTwo_uptime (c d : Cause) : (raiseTwo c d s).uptime = s.uptime := by
  unfold raiseTwo; try dsimp only
  all_goals ((repeat' split) <;> simp)
@[simp] theorem raiseTwo_ident (c d : Cause) : (raiseTwo c d s).ident = s.ident := by
  unfold raiseTwo; try dsimp only
  all_goals ((repeat' split) <;> simp)
@[simp] theorem raiseTwo_check (c d : Cause) : (raiseTwo c d s).check = s.check := by
  unfold raiseTwo; try dsimp only
  all_goals ((repeat' split) <;> simp)
@[simp] theorem raiseTwo_link (c d : Cause) (hc : s.ident.role ≠ .console) :
    (raiseTwo c d s).link = s.link := by
  unfold raiseTwo; dsimp only
  split <;> rw [raise_link, raise_link] <;> simp [hc]
@[simp] theorem raiseTwo_peers (c d : Cause) : (raiseTwo c d s).peers = s.peers := by
  unfold raiseTwo; try dsimp only
  all_goals ((repeat' split) <;> simp)
@[simp] theorem raiseTwo_vref (c d : Cause) : (raiseTwo c d s).vref = s.vref := by
  unfold raiseTwo; try dsimp only
  all_goals ((repeat' split) <;> simp)
@[simp] theorem raiseTwo_console (c d : Cause) : (raiseTwo c d s).console = s.console := by
  unfold raiseTwo; try dsimp only
  all_goals ((repeat' split) <;> simp)
@[simp] theorem raiseTwo_setup (c d : Cause) : (raiseTwo c d s).setup = s.setup := by
  unfold raiseTwo; try dsimp only
  all_goals ((repeat' split) <;> simp)
@[simp] theorem raiseTwo_pins (c d : Cause) : (raiseTwo c d s).pins = s.pins := by
  unfold raiseTwo; try dsimp only
  all_goals ((repeat' split) <;> simp)
@[simp] theorem raiseTwo_pending (c d : Cause) : (raiseTwo c d s).pending = s.pending := by
  unfold raiseTwo; try dsimp only
  all_goals ((repeat' split) <;> simp)

/-! #### raiseFound -/

@[simp] theorem raiseFound_uptime (b : Bool) (o : Option Cause) : (raiseFound b o s).uptime = s.uptime := by
  unfold raiseFound; try dsimp only
  all_goals ((repeat' split) <;> simp)
@[simp] theorem raiseFound_ident (b : Bool) (o : Option Cause) : (raiseFound b o s).ident = s.ident := by
  unfold raiseFound; try dsimp only
  all_goals ((repeat' split) <;> simp)
@[simp] theorem raiseFound_check (b : Bool) (o : Option Cause) : (raiseFound b o s).check = s.check := by
  unfold raiseFound; try dsimp only
  all_goals ((repeat' split) <;> simp)
@[simp] theorem raiseFound_link (b : Bool) (o : Option Cause) (hc : s.ident.role ≠ .console) :
    (raiseFound b o s).link = s.link := by
  unfold raiseFound; try dsimp only
  all_goals ((repeat' split) <;> simp [hc])
@[simp] theorem raiseFound_peers (b : Bool) (o : Option Cause) : (raiseFound b o s).peers = s.peers := by
  unfold raiseFound; try dsimp only
  all_goals ((repeat' split) <;> simp)
@[simp] theorem raiseFound_vref (b : Bool) (o : Option Cause) : (raiseFound b o s).vref = s.vref := by
  unfold raiseFound; try dsimp only
  all_goals ((repeat' split) <;> simp)
@[simp] theorem raiseFound_console (b : Bool) (o : Option Cause) : (raiseFound b o s).console = s.console := by
  unfold raiseFound; try dsimp only
  all_goals ((repeat' split) <;> simp)
@[simp] theorem raiseFound_setup (b : Bool) (o : Option Cause) : (raiseFound b o s).setup = s.setup := by
  unfold raiseFound; try dsimp only
  all_goals ((repeat' split) <;> simp)
@[simp] theorem raiseFound_pins (b : Bool) (o : Option Cause) : (raiseFound b o s).pins = s.pins := by
  unfold raiseFound; try dsimp only
  all_goals ((repeat' split) <;> simp)
@[simp] theorem raiseFound_pending (b : Bool) (o : Option Cause) : (raiseFound b o s).pending = s.pending := by
  unfold raiseFound; try dsimp only
  all_goals ((repeat' split) <;> simp)

/-! #### judgeHold -/

@[simp] theorem judgeHold_uptime : (judgeHold s).uptime = s.uptime := by
  unfold judgeHold; try dsimp only
  all_goals ((repeat' split) <;> simp)
@[simp] theorem judgeHold_ident : (judgeHold s).ident = s.ident := by
  unfold judgeHold; try dsimp only
  all_goals ((repeat' split) <;> simp)
@[simp] theorem judgeHold_check : (judgeHold s).check = s.check := by
  unfold judgeHold; try dsimp only
  all_goals ((repeat' split) <;> simp)
@[simp] theorem judgeHold_link : (judgeHold s).link = s.link := by
  unfold judgeHold; try dsimp only
  all_goals ((repeat' split) <;> simp)
@[simp] theorem judgeHold_peers : (judgeHold s).peers = s.peers := by
  unfold judgeHold; try dsimp only
  all_goals ((repeat' split) <;> simp)
@[simp] theorem judgeHold_vref : (judgeHold s).vref = s.vref := by
  unfold judgeHold; try dsimp only
  all_goals ((repeat' split) <;> simp)
@[simp] theorem judgeHold_console : (judgeHold s).console = s.console := by
  unfold judgeHold; try dsimp only
  all_goals ((repeat' split) <;> simp)
@[simp] theorem judgeHold_setup : (judgeHold s).setup = s.setup := by
  unfold judgeHold; try dsimp only
  all_goals ((repeat' split) <;> simp)
@[simp] theorem judgeHold_pins : (judgeHold s).pins = s.pins := by
  unfold judgeHold; try dsimp only
  all_goals ((repeat' split) <;> simp)
@[simp] theorem judgeHold_choices : (judgeHold s).choices = s.choices := by
  unfold judgeHold; try dsimp only
  all_goals ((repeat' split) <;> simp)
@[simp] theorem judgeHold_pending : (judgeHold s).pending = s.pending := by
  unfold judgeHold; try dsimp only
  all_goals ((repeat' split) <;> simp)

/-! #### enterSettling -/

@[simp] theorem enterSettling_uptime : (enterSettling s).uptime = s.uptime := by
  unfold enterSettling; try dsimp only
  all_goals ((repeat' split) <;> simp)
@[simp] theorem enterSettling_ident : (enterSettling s).ident = s.ident := by
  unfold enterSettling; try dsimp only
  all_goals ((repeat' split) <;> simp)
@[simp] theorem enterSettling_check : (enterSettling s).check = s.check := by
  unfold enterSettling; try dsimp only
  all_goals ((repeat' split) <;> simp)
@[simp] theorem enterSettling_link : (enterSettling s).link = s.link := by
  unfold enterSettling; try dsimp only
  all_goals ((repeat' split) <;> simp)
@[simp] theorem enterSettling_peers : (enterSettling s).peers = s.peers := by
  unfold enterSettling; try dsimp only
  all_goals ((repeat' split) <;> simp)
@[simp] theorem enterSettling_console : (enterSettling s).console = s.console := by
  unfold enterSettling; try dsimp only
  all_goals ((repeat' split) <;> simp)
@[simp] theorem enterSettling_setup : (enterSettling s).setup = s.setup := by
  unfold enterSettling; try dsimp only
  all_goals ((repeat' split) <;> simp)
@[simp] theorem enterSettling_pins : (enterSettling s).pins = s.pins := by
  unfold enterSettling; try dsimp only
  all_goals ((repeat' split) <;> simp)
@[simp] theorem enterSettling_choices : (enterSettling s).choices = s.choices := by
  unfold enterSettling; try dsimp only
  all_goals ((repeat' split) <;> simp)
@[simp] theorem enterSettling_pending : (enterSettling s).pending = s.pending := by
  unfold enterSettling; try dsimp only
  all_goals ((repeat' split) <;> simp)

/-! #### enterHoming -/

@[simp] theorem enterHoming_uptime : (enterHoming s).uptime = s.uptime := by
  unfold enterHoming; try dsimp only
  all_goals ((repeat' split) <;> simp)
@[simp] theorem enterHoming_ident : (enterHoming s).ident = s.ident := by
  unfold enterHoming; try dsimp only
  all_goals ((repeat' split) <;> simp)
@[simp] theorem enterHoming_check : (enterHoming s).check = s.check := by
  unfold enterHoming; try dsimp only
  all_goals ((repeat' split) <;> simp)
@[simp] theorem enterHoming_link : (enterHoming s).link = s.link := by
  unfold enterHoming; try dsimp only
  all_goals ((repeat' split) <;> simp)
@[simp] theorem enterHoming_peers : (enterHoming s).peers = s.peers := by
  unfold enterHoming; try dsimp only
  all_goals ((repeat' split) <;> simp)
@[simp] theorem enterHoming_vref : (enterHoming s).vref = s.vref := by
  unfold enterHoming; try dsimp only
  all_goals ((repeat' split) <;> simp)
@[simp] theorem enterHoming_console : (enterHoming s).console = s.console := by
  unfold enterHoming; try dsimp only
  all_goals ((repeat' split) <;> simp)
@[simp] theorem enterHoming_setup : (enterHoming s).setup = s.setup := by
  unfold enterHoming; try dsimp only
  all_goals ((repeat' split) <;> simp)
@[simp] theorem enterHoming_pins : (enterHoming s).pins = s.pins := by
  unfold enterHoming; try dsimp only
  all_goals ((repeat' split) <;> simp)
@[simp] theorem enterHoming_choices : (enterHoming s).choices = s.choices := by
  unfold enterHoming; try dsimp only
  all_goals ((repeat' split) <;> simp)
@[simp] theorem enterHoming_pending : (enterHoming s).pending = s.pending := by
  unfold enterHoming; try dsimp only
  all_goals ((repeat' split) <;> simp)

/-! #### enterParking -/

@[simp] theorem enterParking_uptime : (enterParking s).uptime = s.uptime := by
  unfold enterParking; try dsimp only
  all_goals ((repeat' split) <;> simp)
@[simp] theorem enterParking_ident : (enterParking s).ident = s.ident := by
  unfold enterParking; try dsimp only
  all_goals ((repeat' split) <;> simp)
@[simp] theorem enterParking_check : (enterParking s).check = s.check := by
  unfold enterParking; try dsimp only
  all_goals ((repeat' split) <;> simp)
@[simp] theorem enterParking_link : (enterParking s).link = s.link := by
  unfold enterParking; try dsimp only
  all_goals ((repeat' split) <;> simp)
@[simp] theorem enterParking_peers : (enterParking s).peers = s.peers := by
  unfold enterParking; try dsimp only
  all_goals ((repeat' split) <;> simp)
@[simp] theorem enterParking_vref : (enterParking s).vref = s.vref := by
  unfold enterParking; try dsimp only
  all_goals ((repeat' split) <;> simp)
@[simp] theorem enterParking_console : (enterParking s).console = s.console := by
  unfold enterParking; try dsimp only
  all_goals ((repeat' split) <;> simp)
@[simp] theorem enterParking_setup : (enterParking s).setup = s.setup := by
  unfold enterParking; try dsimp only
  all_goals ((repeat' split) <;> simp)
@[simp] theorem enterParking_pins : (enterParking s).pins = s.pins := by
  unfold enterParking; try dsimp only
  all_goals ((repeat' split) <;> simp)
@[simp] theorem enterParking_choices : (enterParking s).choices = s.choices := by
  unfold enterParking; try dsimp only
  all_goals ((repeat' split) <;> simp)
@[simp] theorem enterParking_pending : (enterParking s).pending = s.pending := by
  unfold enterParking; try dsimp only
  all_goals ((repeat' split) <;> simp)

/-! #### enterEngaged -/

@[simp] theorem enterEngaged_uptime : (enterEngaged s).uptime = s.uptime := by
  unfold enterEngaged; try dsimp only
  all_goals ((repeat' split) <;> simp)
@[simp] theorem enterEngaged_ident : (enterEngaged s).ident = s.ident := by
  unfold enterEngaged; try dsimp only
  all_goals ((repeat' split) <;> simp)
@[simp] theorem enterEngaged_check : (enterEngaged s).check = s.check := by
  unfold enterEngaged; try dsimp only
  all_goals ((repeat' split) <;> simp)
@[simp] theorem enterEngaged_link : (enterEngaged s).link = s.link := by
  unfold enterEngaged; try dsimp only
  all_goals ((repeat' split) <;> simp)
@[simp] theorem enterEngaged_peers : (enterEngaged s).peers = s.peers := by
  unfold enterEngaged; try dsimp only
  all_goals ((repeat' split) <;> simp)
@[simp] theorem enterEngaged_vref : (enterEngaged s).vref = s.vref := by
  unfold enterEngaged; try dsimp only
  all_goals ((repeat' split) <;> simp)
@[simp] theorem enterEngaged_console : (enterEngaged s).console = s.console := by
  unfold enterEngaged; try dsimp only
  all_goals ((repeat' split) <;> simp)
@[simp] theorem enterEngaged_setup : (enterEngaged s).setup = s.setup := by
  unfold enterEngaged; try dsimp only
  all_goals ((repeat' split) <;> simp)
@[simp] theorem enterEngaged_pins : (enterEngaged s).pins = s.pins := by
  unfold enterEngaged; try dsimp only
  all_goals ((repeat' split) <;> simp)
@[simp] theorem enterEngaged_choices : (enterEngaged s).choices = s.choices := by
  unfold enterEngaged; try dsimp only
  all_goals ((repeat' split) <;> simp)
@[simp] theorem enterEngaged_pending : (enterEngaged s).pending = s.pending := by
  unfold enterEngaged; try dsimp only
  all_goals ((repeat' split) <;> simp)

/-! #### engageOrHold -/

@[simp] theorem engageOrHold_uptime : (engageOrHold s).uptime = s.uptime := by
  unfold engageOrHold; try dsimp only
  all_goals ((repeat' split) <;> simp)
@[simp] theorem engageOrHold_ident : (engageOrHold s).ident = s.ident := by
  unfold engageOrHold; try dsimp only
  all_goals ((repeat' split) <;> simp)
@[simp] theorem engageOrHold_check : (engageOrHold s).check = s.check := by
  unfold engageOrHold; try dsimp only
  all_goals ((repeat' split) <;> simp)
@[simp] theorem engageOrHold_link : (engageOrHold s).link = s.link := by
  unfold engageOrHold; try dsimp only
  all_goals ((repeat' split) <;> simp)
@[simp] theorem engageOrHold_peers : (engageOrHold s).peers = s.peers := by
  unfold engageOrHold; try dsimp only
  all_goals ((repeat' split) <;> simp)
@[simp] theorem engageOrHold_vref : (engageOrHold s).vref = s.vref := by
  unfold engageOrHold; try dsimp only
  all_goals ((repeat' split) <;> simp)
@[simp] theorem engageOrHold_console : (engageOrHold s).console = s.console := by
  unfold engageOrHold; try dsimp only
  all_goals ((repeat' split) <;> simp)
@[simp] theorem engageOrHold_setup : (engageOrHold s).setup = s.setup := by
  unfold engageOrHold; try dsimp only
  all_goals ((repeat' split) <;> simp)
@[simp] theorem engageOrHold_pins : (engageOrHold s).pins = s.pins := by
  unfold engageOrHold; try dsimp only
  all_goals ((repeat' split) <;> simp)
@[simp] theorem engageOrHold_choices : (engageOrHold s).choices = s.choices := by
  unfold engageOrHold; try dsimp only
  all_goals ((repeat' split) <;> simp)
@[simp] theorem engageOrHold_pending : (engageOrHold s).pending = s.pending := by
  unfold engageOrHold; try dsimp only
  all_goals ((repeat' split) <;> simp)

/-! #### enterLive -/

@[simp] theorem enterLive_uptime : (enterLive s).uptime = s.uptime := by
  unfold enterLive; try dsimp only
  all_goals ((repeat' split) <;> simp)
@[simp] theorem enterLive_ident : (enterLive s).ident = s.ident := by
  unfold enterLive; try dsimp only
  all_goals ((repeat' split) <;> simp)
@[simp] theorem enterLive_check : (enterLive s).check = s.check := by
  unfold enterLive; try dsimp only
  all_goals ((repeat' split) <;> simp)
@[simp] theorem enterLive_link : (enterLive s).link = s.link := by
  unfold enterLive; try dsimp only
  all_goals ((repeat' split) <;> simp)
@[simp] theorem enterLive_peers : (enterLive s).peers = s.peers := by
  unfold enterLive; try dsimp only
  all_goals ((repeat' split) <;> simp)
@[simp] theorem enterLive_vref : (enterLive s).vref = s.vref := by
  unfold enterLive; try dsimp only
  all_goals ((repeat' split) <;> simp)
@[simp] theorem enterLive_setup : (enterLive s).setup = s.setup := by
  unfold enterLive; try dsimp only
  all_goals ((repeat' split) <;> simp)
@[simp] theorem enterLive_pins : (enterLive s).pins = s.pins := by
  unfold enterLive; try dsimp only
  all_goals ((repeat' split) <;> simp)
@[simp] theorem enterLive_choices : (enterLive s).choices = s.choices := by
  unfold enterLive; try dsimp only
  all_goals ((repeat' split) <;> simp)
@[simp] theorem enterLive_pending : (enterLive s).pending = s.pending := by
  unfold enterLive; try dsimp only
  all_goals ((repeat' split) <;> simp)

/-! #### leaveSettling -/

@[simp] theorem leaveSettling_uptime : (leaveSettling s).uptime = s.uptime := by
  unfold leaveSettling; try dsimp only
  all_goals ((repeat' split) <;> simp)
@[simp] theorem leaveSettling_ident : (leaveSettling s).ident = s.ident := by
  unfold leaveSettling; try dsimp only
  all_goals ((repeat' split) <;> simp)
@[simp] theorem leaveSettling_check : (leaveSettling s).check = s.check := by
  unfold leaveSettling; try dsimp only
  all_goals ((repeat' split) <;> simp)
@[simp] theorem leaveSettling_link : (leaveSettling s).link = s.link := by
  unfold leaveSettling; try dsimp only
  all_goals ((repeat' split) <;> simp)
@[simp] theorem leaveSettling_peers : (leaveSettling s).peers = s.peers := by
  unfold leaveSettling; try dsimp only
  all_goals ((repeat' split) <;> simp)
@[simp] theorem leaveSettling_console : (leaveSettling s).console = s.console := by
  unfold leaveSettling; try dsimp only
  all_goals ((repeat' split) <;> simp)
@[simp] theorem leaveSettling_setup : (leaveSettling s).setup = s.setup := by
  unfold leaveSettling; try dsimp only
  all_goals ((repeat' split) <;> simp)
@[simp] theorem leaveSettling_pins : (leaveSettling s).pins = s.pins := by
  unfold leaveSettling; try dsimp only
  all_goals ((repeat' split) <;> simp)
@[simp] theorem leaveSettling_choices : (leaveSettling s).choices = s.choices := by
  unfold leaveSettling; try dsimp only
  all_goals ((repeat' split) <;> simp)
@[simp] theorem leaveSettling_pending : (leaveSettling s).pending = s.pending := by
  unfold leaveSettling; try dsimp only
  all_goals ((repeat' split) <;> simp)

/-! #### actOnStop -/

@[simp] theorem actOnStop_uptime : (actOnStop s).uptime = s.uptime := by
  unfold actOnStop; try dsimp only
  all_goals ((repeat' split) <;> simp)
@[simp] theorem actOnStop_ident : (actOnStop s).ident = s.ident := by
  unfold actOnStop; try dsimp only
  all_goals ((repeat' split) <;> simp)
@[simp] theorem actOnStop_check : (actOnStop s).check = s.check := by
  unfold actOnStop; try dsimp only
  all_goals ((repeat' split) <;> simp)
@[simp] theorem actOnStop_link : (actOnStop s).link = s.link := by
  unfold actOnStop; try dsimp only
  all_goals ((repeat' split) <;> simp)
@[simp] theorem actOnStop_peers : (actOnStop s).peers = s.peers := by
  unfold actOnStop; try dsimp only
  all_goals ((repeat' split) <;> simp)
@[simp] theorem actOnStop_vref : (actOnStop s).vref = s.vref := by
  unfold actOnStop; try dsimp only
  all_goals ((repeat' split) <;> simp)
@[simp] theorem actOnStop_setup : (actOnStop s).setup = s.setup := by
  unfold actOnStop; try dsimp only
  all_goals ((repeat' split) <;> simp)
@[simp] theorem actOnStop_pins : (actOnStop s).pins = s.pins := by
  unfold actOnStop; try dsimp only
  all_goals ((repeat' split) <;> simp)
@[simp] theorem actOnStop_choices : (actOnStop s).choices = s.choices := by
  unfold actOnStop; try dsimp only
  all_goals ((repeat' split) <;> simp)
@[simp] theorem actOnStop_pending : (actOnStop s).pending = s.pending := by
  unfold actOnStop; try dsimp only
  all_goals ((repeat' split) <;> simp)

/-! #### enterStandby -/

@[simp] theorem enterStandby_uptime : (enterStandby s).uptime = s.uptime := by
  unfold enterStandby; try dsimp only
  all_goals ((repeat' split) <;> simp)
@[simp] theorem enterStandby_ident : (enterStandby s).ident = s.ident := by
  unfold enterStandby; try dsimp only
  all_goals ((repeat' split) <;> simp)
@[simp] theorem enterStandby_check : (enterStandby s).check = s.check := by
  unfold enterStandby; try dsimp only
  all_goals ((repeat' split) <;> simp)
@[simp] theorem enterStandby_peers : (enterStandby s).peers = s.peers := by
  unfold enterStandby; try dsimp only
  all_goals ((repeat' split) <;> simp)
@[simp] theorem enterStandby_vref : (enterStandby s).vref = s.vref := by
  unfold enterStandby; try dsimp only
  all_goals ((repeat' split) <;> simp)
@[simp] theorem enterStandby_console : (enterStandby s).console = s.console := by
  unfold enterStandby; try dsimp only
  all_goals ((repeat' split) <;> simp)
@[simp] theorem enterStandby_setup : (enterStandby s).setup = s.setup := by
  unfold enterStandby; try dsimp only
  all_goals ((repeat' split) <;> simp)
@[simp] theorem enterStandby_pins : (enterStandby s).pins = s.pins := by
  unfold enterStandby; try dsimp only
  all_goals ((repeat' split) <;> simp)
@[simp] theorem enterStandby_choices : (enterStandby s).choices = s.choices := by
  unfold enterStandby; try dsimp only
  all_goals ((repeat' split) <;> simp)
@[simp] theorem enterStandby_pending : (enterStandby s).pending = s.pending := by
  unfold enterStandby; try dsimp only
  all_goals ((repeat' split) <;> simp)

/-! #### pageChange -/

@[simp] theorem pageChange_uptime (p : PageNo) : (pageChange p s).uptime = s.uptime := by
  unfold pageChange; try dsimp only
  all_goals ((repeat' split) <;> simp)
@[simp] theorem pageChange_ident (p : PageNo) : (pageChange p s).ident = s.ident := by
  unfold pageChange; try dsimp only
  all_goals ((repeat' split) <;> simp)
@[simp] theorem pageChange_node (p : PageNo) : (pageChange p s).node = s.node := by
  unfold pageChange; try dsimp only
  all_goals ((repeat' split) <;> simp)
@[simp] theorem pageChange_check (p : PageNo) : (pageChange p s).check = s.check := by
  unfold pageChange; try dsimp only
  all_goals ((repeat' split) <;> simp)
@[simp] theorem pageChange_link (p : PageNo) : (pageChange p s).link = s.link := by
  unfold pageChange; try dsimp only
  all_goals ((repeat' split) <;> simp)
@[simp] theorem pageChange_peers (p : PageNo) : (pageChange p s).peers = s.peers := by
  unfold pageChange; try dsimp only
  all_goals ((repeat' split) <;> simp)
@[simp] theorem pageChange_drive (p : PageNo) : (pageChange p s).drive = s.drive := by
  unfold pageChange; try dsimp only
  all_goals ((repeat' split) <;> simp)
@[simp] theorem pageChange_vref (p : PageNo) : (pageChange p s).vref = s.vref := by
  unfold pageChange; try dsimp only
  all_goals ((repeat' split) <;> simp)
@[simp] theorem pageChange_console (p : PageNo) : (pageChange p s).console = s.console := by
  unfold pageChange; try dsimp only
  all_goals ((repeat' split) <;> simp)
@[simp] theorem pageChange_setup (p : PageNo) : (pageChange p s).setup = s.setup := by
  unfold pageChange; try dsimp only
  all_goals ((repeat' split) <;> simp)
@[simp] theorem pageChange_pins (p : PageNo) : (pageChange p s).pins = s.pins := by
  unfold pageChange; try dsimp only
  all_goals ((repeat' split) <;> simp)
@[simp] theorem pageChange_ledPhase (p : PageNo) : (pageChange p s).ledPhase = s.ledPhase := by
  unfold pageChange; try dsimp only
  all_goals ((repeat' split) <;> simp)
@[simp] theorem pageChange_choices (p : PageNo) : (pageChange p s).choices = s.choices := by
  unfold pageChange; try dsimp only
  all_goals ((repeat' split) <;> simp)
@[simp] theorem pageChange_pending (p : PageNo) : (pageChange p s).pending = s.pending := by
  unfold pageChange; try dsimp only
  all_goals ((repeat' split) <;> simp)

/-! #### resolveInUse -/

@[simp] theorem resolveInUse_uptime (r : Regime) : (resolveInUse r s).uptime = s.uptime := by
  unfold resolveInUse; try dsimp only
  all_goals ((repeat' split) <;> simp)
@[simp] theorem resolveInUse_ident (r : Regime) : (resolveInUse r s).ident = s.ident := by
  unfold resolveInUse; try dsimp only
  all_goals ((repeat' split) <;> simp)
@[simp] theorem resolveInUse_node (r : Regime) : (resolveInUse r s).node = s.node := by
  unfold resolveInUse; try dsimp only
  all_goals ((repeat' split) <;> simp)
@[simp] theorem resolveInUse_check (r : Regime) : (resolveInUse r s).check = s.check := by
  unfold resolveInUse; try dsimp only
  all_goals ((repeat' split) <;> simp)
@[simp] theorem resolveInUse_link (r : Regime) : (resolveInUse r s).link = s.link := by
  unfold resolveInUse; try dsimp only
  all_goals ((repeat' split) <;> simp)
@[simp] theorem resolveInUse_peers (r : Regime) : (resolveInUse r s).peers = s.peers := by
  unfold resolveInUse; try dsimp only
  all_goals ((repeat' split) <;> simp)
@[simp] theorem resolveInUse_drive (r : Regime) : (resolveInUse r s).drive = s.drive := by
  unfold resolveInUse; try dsimp only
  all_goals ((repeat' split) <;> simp)
@[simp] theorem resolveInUse_vref (r : Regime) : (resolveInUse r s).vref = s.vref := by
  unfold resolveInUse; try dsimp only
  all_goals ((repeat' split) <;> simp)
@[simp] theorem resolveInUse_console (r : Regime) : (resolveInUse r s).console = s.console := by
  unfold resolveInUse; try dsimp only
  all_goals ((repeat' split) <;> simp)
@[simp] theorem resolveInUse_setup (r : Regime) : (resolveInUse r s).setup = s.setup := by
  unfold resolveInUse; try dsimp only
  all_goals ((repeat' split) <;> simp)
@[simp] theorem resolveInUse_pins (r : Regime) : (resolveInUse r s).pins = s.pins := by
  unfold resolveInUse; try dsimp only
  all_goals ((repeat' split) <;> simp)
@[simp] theorem resolveInUse_ledPhase (r : Regime) : (resolveInUse r s).ledPhase = s.ledPhase := by
  unfold resolveInUse; try dsimp only
  all_goals ((repeat' split) <;> simp)
@[simp] theorem resolveInUse_choices (r : Regime) : (resolveInUse r s).choices = s.choices := by
  unfold resolveInUse; try dsimp only
  all_goals ((repeat' split) <;> simp)
@[simp] theorem resolveInUse_pending (r : Regime) : (resolveInUse r s).pending = s.pending := by
  unfold resolveInUse; try dsimp only
  all_goals ((repeat' split) <;> simp)

/-! #### switchRegime -/

@[simp] theorem switchRegime_uptime (r : Regime) : (switchRegime r s).uptime = s.uptime := by
  unfold switchRegime; try dsimp only
  all_goals ((repeat' split) <;> simp)
@[simp] theorem switchRegime_ident (r : Regime) : (switchRegime r s).ident = s.ident := by
  unfold switchRegime; try dsimp only
  all_goals ((repeat' split) <;> simp)
@[simp] theorem switchRegime_node (r : Regime) : (switchRegime r s).node = s.node := by
  unfold switchRegime; try dsimp only
  all_goals ((repeat' split) <;> simp)
@[simp] theorem switchRegime_check (r : Regime) : (switchRegime r s).check = s.check := by
  unfold switchRegime; try dsimp only
  all_goals ((repeat' split) <;> simp)
@[simp] theorem switchRegime_link (r : Regime) : (switchRegime r s).link = s.link := by
  unfold switchRegime; try dsimp only
  all_goals ((repeat' split) <;> simp)
@[simp] theorem switchRegime_peers (r : Regime) : (switchRegime r s).peers = s.peers := by
  unfold switchRegime; try dsimp only
  all_goals ((repeat' split) <;> simp)
@[simp] theorem switchRegime_drive (r : Regime) : (switchRegime r s).drive = s.drive := by
  unfold switchRegime; try dsimp only
  all_goals ((repeat' split) <;> simp)
@[simp] theorem switchRegime_vref (r : Regime) : (switchRegime r s).vref = s.vref := by
  unfold switchRegime; try dsimp only
  all_goals ((repeat' split) <;> simp)
@[simp] theorem switchRegime_console (r : Regime) : (switchRegime r s).console = s.console := by
  unfold switchRegime; try dsimp only
  all_goals ((repeat' split) <;> simp)
@[simp] theorem switchRegime_setup (r : Regime) : (switchRegime r s).setup = s.setup := by
  unfold switchRegime; try dsimp only
  all_goals ((repeat' split) <;> simp)
@[simp] theorem switchRegime_pins (r : Regime) : (switchRegime r s).pins = s.pins := by
  unfold switchRegime; try dsimp only
  all_goals ((repeat' split) <;> simp)
@[simp] theorem switchRegime_ledPhase (r : Regime) : (switchRegime r s).ledPhase = s.ledPhase := by
  unfold switchRegime; try dsimp only
  all_goals ((repeat' split) <;> simp)
@[simp] theorem switchRegime_choices (r : Regime) : (switchRegime r s).choices = s.choices := by
  unfold switchRegime; try dsimp only
  all_goals ((repeat' split) <;> simp)
@[simp] theorem switchRegime_pending (r : Regime) : (switchRegime r s).pending = s.pending := by
  unfold switchRegime; try dsimp only
  all_goals ((repeat' split) <;> simp)

/-! #### lateAdoption -/

@[simp] theorem lateAdoption_uptime (v : VehiclePayload) : (lateAdoption v s).uptime = s.uptime := by
  unfold lateAdoption; try dsimp only
  all_goals ((repeat' split) <;> simp)
@[simp] theorem lateAdoption_ident (v : VehiclePayload) : (lateAdoption v s).ident = s.ident := by
  unfold lateAdoption; try dsimp only
  all_goals ((repeat' split) <;> simp)
@[simp] theorem lateAdoption_node (v : VehiclePayload) : (lateAdoption v s).node = s.node := by
  unfold lateAdoption; try dsimp only
  all_goals ((repeat' split) <;> simp)
@[simp] theorem lateAdoption_check (v : VehiclePayload) : (lateAdoption v s).check = s.check := by
  unfold lateAdoption; try dsimp only
  all_goals ((repeat' split) <;> simp)
@[simp] theorem lateAdoption_link (v : VehiclePayload) : (lateAdoption v s).link = s.link := by
  unfold lateAdoption; try dsimp only
  all_goals ((repeat' split) <;> simp)
@[simp] theorem lateAdoption_peers (v : VehiclePayload) : (lateAdoption v s).peers = s.peers := by
  unfold lateAdoption; try dsimp only
  all_goals ((repeat' split) <;> simp)
@[simp] theorem lateAdoption_drive (v : VehiclePayload) : (lateAdoption v s).drive = s.drive := by
  unfold lateAdoption; try dsimp only
  all_goals ((repeat' split) <;> simp)
@[simp] theorem lateAdoption_vref (v : VehiclePayload) : (lateAdoption v s).vref = s.vref := by
  unfold lateAdoption; try dsimp only
  all_goals ((repeat' split) <;> simp)
@[simp] theorem lateAdoption_console (v : VehiclePayload) : (lateAdoption v s).console = s.console := by
  unfold lateAdoption; try dsimp only
  all_goals ((repeat' split) <;> simp)
@[simp] theorem lateAdoption_setup (v : VehiclePayload) : (lateAdoption v s).setup = s.setup := by
  unfold lateAdoption; try dsimp only
  all_goals ((repeat' split) <;> simp)
@[simp] theorem lateAdoption_pins (v : VehiclePayload) : (lateAdoption v s).pins = s.pins := by
  unfold lateAdoption; try dsimp only
  all_goals ((repeat' split) <;> simp)
@[simp] theorem lateAdoption_ledPhase (v : VehiclePayload) : (lateAdoption v s).ledPhase = s.ledPhase := by
  unfold lateAdoption; try dsimp only
  all_goals ((repeat' split) <;> simp)
@[simp] theorem lateAdoption_choices (v : VehiclePayload) : (lateAdoption v s).choices = s.choices := by
  unfold lateAdoption; try dsimp only
  all_goals ((repeat' split) <;> simp)
@[simp] theorem lateAdoption_pending (v : VehiclePayload) : (lateAdoption v s).pending = s.pending := by
  unfold lateAdoption; try dsimp only
  all_goals ((repeat' split) <;> simp)

/-! #### directoryTakes -/

@[simp] theorem directoryTakes_uptime (v : VehiclePayload) (c : Time) (f : Fresh) : (directoryTakes v c f s).uptime = s.uptime := by
  unfold directoryTakes; try dsimp only
  all_goals ((repeat' split) <;> simp)
@[simp] theorem directoryTakes_ident (v : VehiclePayload) (c : Time) (f : Fresh) : (directoryTakes v c f s).ident = s.ident := by
  unfold directoryTakes; try dsimp only
  all_goals ((repeat' split) <;> simp)
@[simp] theorem directoryTakes_node (v : VehiclePayload) (c : Time) (f : Fresh) : (directoryTakes v c f s).node = s.node := by
  unfold directoryTakes; try dsimp only
  all_goals ((repeat' split) <;> simp)
@[simp] theorem directoryTakes_check (v : VehiclePayload) (c : Time) (f : Fresh) : (directoryTakes v c f s).check = s.check := by
  unfold directoryTakes; try dsimp only
  all_goals ((repeat' split) <;> simp)
@[simp] theorem directoryTakes_link (v : VehiclePayload) (c : Time) (f : Fresh) : (directoryTakes v c f s).link = s.link := by
  unfold directoryTakes; try dsimp only
  all_goals ((repeat' split) <;> simp)
@[simp] theorem directoryTakes_peers (v : VehiclePayload) (c : Time) (f : Fresh) : (directoryTakes v c f s).peers = s.peers := by
  unfold directoryTakes; try dsimp only
  all_goals ((repeat' split) <;> simp)
@[simp] theorem directoryTakes_drive (v : VehiclePayload) (c : Time) (f : Fresh) : (directoryTakes v c f s).drive = s.drive := by
  unfold directoryTakes; try dsimp only
  all_goals ((repeat' split) <;> simp)
@[simp] theorem directoryTakes_vref (v : VehiclePayload) (c : Time) (f : Fresh) : (directoryTakes v c f s).vref = s.vref := by
  unfold directoryTakes; try dsimp only
  all_goals ((repeat' split) <;> simp)
@[simp] theorem directoryTakes_console (v : VehiclePayload) (c : Time) (f : Fresh) : (directoryTakes v c f s).console = s.console := by
  unfold directoryTakes; try dsimp only
  all_goals ((repeat' split) <;> simp)
@[simp] theorem directoryTakes_setup (v : VehiclePayload) (c : Time) (f : Fresh) : (directoryTakes v c f s).setup = s.setup := by
  unfold directoryTakes; try dsimp only
  all_goals ((repeat' split) <;> simp)
@[simp] theorem directoryTakes_pins (v : VehiclePayload) (c : Time) (f : Fresh) : (directoryTakes v c f s).pins = s.pins := by
  unfold directoryTakes; try dsimp only
  all_goals ((repeat' split) <;> simp)
@[simp] theorem directoryTakes_ledPhase (v : VehiclePayload) (c : Time) (f : Fresh) : (directoryTakes v c f s).ledPhase = s.ledPhase := by
  unfold directoryTakes; try dsimp only
  all_goals ((repeat' split) <;> simp)
@[simp] theorem directoryTakes_choices (v : VehiclePayload) (c : Time) (f : Fresh) : (directoryTakes v c f s).choices = s.choices := by
  unfold directoryTakes; try dsimp only
  all_goals ((repeat' split) <;> simp)
@[simp] theorem directoryTakes_pending (v : VehiclePayload) (c : Time) (f : Fresh) : (directoryTakes v c f s).pending = s.pending := by
  unfold directoryTakes; try dsimp only
  all_goals ((repeat' split) <;> simp)

/-! #### testLocalPending -/

@[simp] theorem testLocalPending_uptime (t : Time) : (testLocalPending t s).uptime = s.uptime := by
  unfold testLocalPending; try dsimp only
  all_goals ((repeat' split) <;> simp)
@[simp] theorem testLocalPending_ident (t : Time) : (testLocalPending t s).ident = s.ident := by
  unfold testLocalPending; try dsimp only
  all_goals ((repeat' split) <;> simp)
@[simp] theorem testLocalPending_node (t : Time) : (testLocalPending t s).node = s.node := by
  unfold testLocalPending; try dsimp only
  all_goals ((repeat' split) <;> simp)
@[simp] theorem testLocalPending_check (t : Time) : (testLocalPending t s).check = s.check := by
  unfold testLocalPending; try dsimp only
  all_goals ((repeat' split) <;> simp)
@[simp] theorem testLocalPending_link (t : Time) : (testLocalPending t s).link = s.link := by
  unfold testLocalPending; try dsimp only
  all_goals ((repeat' split) <;> simp)
@[simp] theorem testLocalPending_peers (t : Time) : (testLocalPending t s).peers = s.peers := by
  unfold testLocalPending; try dsimp only
  all_goals ((repeat' split) <;> simp)
@[simp] theorem testLocalPending_drive (t : Time) : (testLocalPending t s).drive = s.drive := by
  unfold testLocalPending; try dsimp only
  all_goals ((repeat' split) <;> simp)
@[simp] theorem testLocalPending_vref (t : Time) : (testLocalPending t s).vref = s.vref := by
  unfold testLocalPending; try dsimp only
  all_goals ((repeat' split) <;> simp)
@[simp] theorem testLocalPending_console (t : Time) : (testLocalPending t s).console = s.console := by
  unfold testLocalPending; try dsimp only
  all_goals ((repeat' split) <;> simp)
@[simp] theorem testLocalPending_setup (t : Time) : (testLocalPending t s).setup = s.setup := by
  unfold testLocalPending; try dsimp only
  all_goals ((repeat' split) <;> simp)
@[simp] theorem testLocalPending_pins (t : Time) : (testLocalPending t s).pins = s.pins := by
  unfold testLocalPending; try dsimp only
  all_goals ((repeat' split) <;> simp)
@[simp] theorem testLocalPending_ledPhase (t : Time) : (testLocalPending t s).ledPhase = s.ledPhase := by
  unfold testLocalPending; try dsimp only
  all_goals ((repeat' split) <;> simp)
@[simp] theorem testLocalPending_choices (t : Time) : (testLocalPending t s).choices = s.choices := by
  unfold testLocalPending; try dsimp only
  all_goals ((repeat' split) <;> simp)
@[simp] theorem testLocalPending_pending (t : Time) : (testLocalPending t s).pending = s.pending := by
  unfold testLocalPending; try dsimp only
  all_goals ((repeat' split) <;> simp)

end Sys2Proof.Machine
end

