-- ==== Sys2Proof/Laws/Sample.lean ====
section
/-! SUPPORT. The frames of the sample path: what each block leaves as it was at a delivered sample. -/

namespace Sys2Proof.Machine

variable (s : State)

/-! #### sendCommand -/

@[simp] theorem sendCommand_uptime (u : Int) : (sendCommand u s).uptime = s.uptime := by
  unfold sendCommand; try dsimp only
  all_goals ((repeat' split) <;> simp)
@[simp] theorem sendCommand_ident (u : Int) : (sendCommand u s).ident = s.ident := by
  unfold sendCommand; try dsimp only
  all_goals ((repeat' split) <;> simp)
@[simp] theorem sendCommand_node (u : Int) : (sendCommand u s).node = s.node := by
  unfold sendCommand; try dsimp only
  all_goals ((repeat' split) <;> simp)
@[simp] theorem sendCommand_check (u : Int) : (sendCommand u s).check = s.check := by
  unfold sendCommand; try dsimp only
  all_goals ((repeat' split) <;> simp)
@[simp] theorem sendCommand_link (u : Int) : (sendCommand u s).link = s.link := by
  unfold sendCommand; try dsimp only
  all_goals ((repeat' split) <;> simp)
@[simp] theorem sendCommand_peers (u : Int) : (sendCommand u s).peers = s.peers := by
  unfold sendCommand; try dsimp only
  all_goals ((repeat' split) <;> simp)
@[simp] theorem sendCommand_sensor (u : Int) : (sendCommand u s).sensor = s.sensor := by
  unfold sendCommand; try dsimp only
  all_goals ((repeat' split) <;> simp)
@[simp] theorem sendCommand_vref (u : Int) : (sendCommand u s).vref = s.vref := by
  unfold sendCommand; try dsimp only
  all_goals ((repeat' split) <;> simp)
@[simp] theorem sendCommand_corr (u : Int) : (sendCommand u s).corr = s.corr := by
  unfold sendCommand; try dsimp only
  all_goals ((repeat' split) <;> simp)
@[simp] theorem sendCommand_gains (u : Int) : (sendCommand u s).gains = s.gains := by
  unfold sendCommand; try dsimp only
  all_goals ((repeat' split) <;> simp)
@[simp] theorem sendCommand_console (u : Int) : (sendCommand u s).console = s.console := by
  unfold sendCommand; try dsimp only
  all_goals ((repeat' split) <;> simp)
@[simp] theorem sendCommand_setup (u : Int) : (sendCommand u s).setup = s.setup := by
  unfold sendCommand; try dsimp only
  all_goals ((repeat' split) <;> simp)
@[simp] theorem sendCommand_pins (u : Int) : (sendCommand u s).pins = s.pins := by
  unfold sendCommand; try dsimp only
  all_goals ((repeat' split) <;> simp)
@[simp] theorem sendCommand_ledPhase (u : Int) : (sendCommand u s).ledPhase = s.ledPhase := by
  unfold sendCommand; try dsimp only
  all_goals ((repeat' split) <;> simp)
@[simp] theorem sendCommand_choices (u : Int) : (sendCommand u s).choices = s.choices := by
  unfold sendCommand; try dsimp only
  all_goals ((repeat' split) <;> simp)
@[simp] theorem sendCommand_pending (u : Int) : (sendCommand u s).pending = s.pending := by
  unfold sendCommand; try dsimp only
  all_goals ((repeat' split) <;> simp)

/-! #### homeSample -/

@[simp] theorem homeSample_uptime : (homeSample s).uptime = s.uptime := by
  unfold homeSample; try dsimp only
  all_goals ((repeat' split) <;> simp)
@[simp] theorem homeSample_ident : (homeSample s).ident = s.ident := by
  unfold homeSample; try dsimp only
  all_goals ((repeat' split) <;> simp)
@[simp] theorem homeSample_check : (homeSample s).check = s.check := by
  unfold homeSample; try dsimp only
  all_goals ((repeat' split) <;> simp)
@[simp] theorem homeSample_link (hc : s.ident.role ≠ .console) : (homeSample s).link = s.link := by
  unfold homeSample; try dsimp only
  all_goals ((repeat' split) <;> simp -implicitDefEqProofs [hc])
@[simp] theorem homeSample_peers : (homeSample s).peers = s.peers := by
  unfold homeSample; try dsimp only
  all_goals ((repeat' split) <;> simp)
@[simp] theorem homeSample_vref : (homeSample s).vref = s.vref := by
  unfold homeSample; try dsimp only
  all_goals ((repeat' split) <;> simp)
@[simp] theorem homeSample_console : (homeSample s).console = s.console := by
  unfold homeSample; try dsimp only
  all_goals ((repeat' split) <;> simp)
@[simp] theorem homeSample_setup : (homeSample s).setup = s.setup := by
  unfold homeSample; try dsimp only
  all_goals ((repeat' split) <;> simp)
@[simp] theorem homeSample_pins : (homeSample s).pins = s.pins := by
  unfold homeSample; try dsimp only
  all_goals ((repeat' split) <;> simp)
@[simp] theorem homeSample_pending : (homeSample s).pending = s.pending := by
  unfold homeSample; try dsimp only
  all_goals ((repeat' split) <;> simp)

/-! #### arrive -/

@[simp] theorem arrive_uptime : (arrive s).uptime = s.uptime := by
  unfold arrive; try dsimp only
  all_goals ((repeat' split) <;> simp)
@[simp] theorem arrive_ident : (arrive s).ident = s.ident := by
  unfold arrive; try dsimp only
  all_goals ((repeat' split) <;> simp)
@[simp] theorem arrive_check : (arrive s).check = s.check := by
  unfold arrive; try dsimp only
  all_goals ((repeat' split) <;> simp)
@[simp] theorem arrive_link : (arrive s).link = s.link := by
  unfold arrive; try dsimp only
  all_goals ((repeat' split) <;> simp)
@[simp] theorem arrive_peers : (arrive s).peers = s.peers := by
  unfold arrive; try dsimp only
  all_goals ((repeat' split) <;> simp)
@[simp] theorem arrive_vref : (arrive s).vref = s.vref := by
  unfold arrive; try dsimp only
  all_goals ((repeat' split) <;> simp)
@[simp] theorem arrive_console : (arrive s).console = s.console := by
  unfold arrive; try dsimp only
  all_goals ((repeat' split) <;> simp)
@[simp] theorem arrive_setup : (arrive s).setup = s.setup := by
  unfold arrive; try dsimp only
  all_goals ((repeat' split) <;> simp)
@[simp] theorem arrive_pins : (arrive s).pins = s.pins := by
  unfold arrive; try dsimp only
  all_goals ((repeat' split) <;> simp)
@[simp] theorem arrive_choices : (arrive s).choices = s.choices := by
  unfold arrive; try dsimp only
  all_goals ((repeat' split) <;> simp)
@[simp] theorem arrive_pending : (arrive s).pending = s.pending := by
  unfold arrive; try dsimp only
  all_goals ((repeat' split) <;> simp)

/-! #### parkSample -/

@[simp] theorem parkSample_uptime (a r : Int) : (parkSample a r s).uptime = s.uptime := by
  unfold parkSample; try dsimp only
  all_goals ((repeat' split) <;> simp)
@[simp] theorem parkSample_ident (a r : Int) : (parkSample a r s).ident = s.ident := by
  unfold parkSample; try dsimp only
  all_goals ((repeat' split) <;> simp)
@[simp] theorem parkSample_check (a r : Int) : (parkSample a r s).check = s.check := by
  unfold parkSample; try dsimp only
  all_goals ((repeat' split) <;> simp)
@[simp] theorem parkSample_link (a r : Int) (hc : s.ident.role ≠ .console) :
    (parkSample a r s).link = s.link := by
  unfold parkSample; try dsimp only
  all_goals ((repeat' split) <;> simp -implicitDefEqProofs [hc])
@[simp] theorem parkSample_peers (a r : Int) : (parkSample a r s).peers = s.peers := by
  unfold parkSample; try dsimp only
  all_goals ((repeat' split) <;> simp)
@[simp] theorem parkSample_vref (a r : Int) : (parkSample a r s).vref = s.vref := by
  unfold parkSample; try dsimp only
  all_goals ((repeat' split) <;> simp)
@[simp] theorem parkSample_console (a r : Int) : (parkSample a r s).console = s.console := by
  unfold parkSample; try dsimp only
  all_goals ((repeat' split) <;> simp)
@[simp] theorem parkSample_setup (a r : Int) : (parkSample a r s).setup = s.setup := by
  unfold parkSample; try dsimp only
  all_goals ((repeat' split) <;> simp)
@[simp] theorem parkSample_pins (a r : Int) : (parkSample a r s).pins = s.pins := by
  unfold parkSample; try dsimp only
  all_goals ((repeat' split) <;> simp)
@[simp] theorem parkSample_pending (a r : Int) : (parkSample a r s).pending = s.pending := by
  unfold parkSample; try dsimp only
  all_goals ((repeat' split) <;> simp)

/-! #### holdSample -/

@[simp] theorem holdSample_uptime : (holdSample s).uptime = s.uptime := by
  unfold holdSample; try dsimp only
  all_goals ((repeat' split) <;> simp)
@[simp] theorem holdSample_ident : (holdSample s).ident = s.ident := by
  unfold holdSample; try dsimp only
  all_goals ((repeat' split) <;> simp)
@[simp] theorem holdSample_check : (holdSample s).check = s.check := by
  unfold holdSample; try dsimp only
  all_goals ((repeat' split) <;> simp)
@[simp] theorem holdSample_link (hc : s.ident.role ≠ .console) : (holdSample s).link = s.link := by
  unfold holdSample; try dsimp only
  all_goals ((repeat' split) <;> simp -implicitDefEqProofs [hc])
@[simp] theorem holdSample_peers : (holdSample s).peers = s.peers := by
  unfold holdSample; try dsimp only
  all_goals ((repeat' split) <;> simp)
@[simp] theorem holdSample_vref : (holdSample s).vref = s.vref := by
  unfold holdSample; try dsimp only
  all_goals ((repeat' split) <;> simp)
@[simp] theorem holdSample_console : (holdSample s).console = s.console := by
  unfold holdSample; try dsimp only
  all_goals ((repeat' split) <;> simp)
@[simp] theorem holdSample_setup : (holdSample s).setup = s.setup := by
  unfold holdSample; try dsimp only
  all_goals ((repeat' split) <;> simp)
@[simp] theorem holdSample_pins : (holdSample s).pins = s.pins := by
  unfold holdSample; try dsimp only
  all_goals ((repeat' split) <;> simp)
@[simp] theorem holdSample_choices : (holdSample s).choices = s.choices := by
  unfold holdSample; try dsimp only
  all_goals ((repeat' split) <;> simp)
@[simp] theorem holdSample_pending : (holdSample s).pending = s.pending := by
  unfold holdSample; try dsimp only
  all_goals ((repeat' split) <;> simp)

/-! #### tripSwitch -/

@[simp] theorem tripSwitch_uptime (e : EndSwitch) : (tripSwitch e s).uptime = s.uptime := by
  unfold tripSwitch; try dsimp only
  all_goals ((repeat' split) <;> simp)
@[simp] theorem tripSwitch_ident (e : EndSwitch) : (tripSwitch e s).ident = s.ident := by
  unfold tripSwitch; try dsimp only
  all_goals ((repeat' split) <;> simp)
@[simp] theorem tripSwitch_check (e : EndSwitch) : (tripSwitch e s).check = s.check := by
  unfold tripSwitch; try dsimp only
  all_goals ((repeat' split) <;> simp)
@[simp] theorem tripSwitch_link (e : EndSwitch) (hc : s.ident.role ≠ .console) :
    (tripSwitch e s).link = s.link := by
  unfold tripSwitch; try dsimp only
  all_goals ((repeat' split) <;> simp -implicitDefEqProofs [hc])
@[simp] theorem tripSwitch_peers (e : EndSwitch) : (tripSwitch e s).peers = s.peers := by
  unfold tripSwitch; try dsimp only
  all_goals ((repeat' split) <;> simp)
@[simp] theorem tripSwitch_vref (e : EndSwitch) : (tripSwitch e s).vref = s.vref := by
  unfold tripSwitch; try dsimp only
  all_goals ((repeat' split) <;> simp)
@[simp] theorem tripSwitch_console (e : EndSwitch) : (tripSwitch e s).console = s.console := by
  unfold tripSwitch; try dsimp only
  all_goals ((repeat' split) <;> simp)
@[simp] theorem tripSwitch_setup (e : EndSwitch) : (tripSwitch e s).setup = s.setup := by
  unfold tripSwitch; try dsimp only
  all_goals ((repeat' split) <;> simp)
@[simp] theorem tripSwitch_pins (e : EndSwitch) : (tripSwitch e s).pins = s.pins := by
  unfold tripSwitch; try dsimp only
  all_goals ((repeat' split) <;> simp)
@[simp] theorem tripSwitch_choices (e : EndSwitch) : (tripSwitch e s).choices = s.choices := by
  unfold tripSwitch; try dsimp only
  all_goals ((repeat' split) <;> simp)
@[simp] theorem tripSwitch_pending (e : EndSwitch) : (tripSwitch e s).pending = s.pending := by
  unfold tripSwitch; try dsimp only
  all_goals ((repeat' split) <;> simp)

/-! #### clearSwitch -/

@[simp] theorem clearSwitch_uptime (e : EndSwitch) : (clearSwitch e s).uptime = s.uptime := by
  unfold clearSwitch; try dsimp only
  all_goals ((repeat' split) <;> simp)
@[simp] theorem clearSwitch_ident (e : EndSwitch) : (clearSwitch e s).ident = s.ident := by
  unfold clearSwitch; try dsimp only
  all_goals ((repeat' split) <;> simp)
@[simp] theorem clearSwitch_node (e : EndSwitch) : (clearSwitch e s).node = s.node := by
  unfold clearSwitch; try dsimp only
  all_goals ((repeat' split) <;> simp)
@[simp] theorem clearSwitch_check (e : EndSwitch) : (clearSwitch e s).check = s.check := by
  unfold clearSwitch; try dsimp only
  all_goals ((repeat' split) <;> simp)
@[simp] theorem clearSwitch_link (e : EndSwitch) : (clearSwitch e s).link = s.link := by
  unfold clearSwitch; try dsimp only
  all_goals ((repeat' split) <;> simp)
@[simp] theorem clearSwitch_peers (e : EndSwitch) : (clearSwitch e s).peers = s.peers := by
  unfold clearSwitch; try dsimp only
  all_goals ((repeat' split) <;> simp)
@[simp] theorem clearSwitch_sensor (e : EndSwitch) : (clearSwitch e s).sensor = s.sensor := by
  unfold clearSwitch; try dsimp only
  all_goals ((repeat' split) <;> simp)
@[simp] theorem clearSwitch_vref (e : EndSwitch) : (clearSwitch e s).vref = s.vref := by
  unfold clearSwitch; try dsimp only
  all_goals ((repeat' split) <;> simp)
@[simp] theorem clearSwitch_corr (e : EndSwitch) : (clearSwitch e s).corr = s.corr := by
  unfold clearSwitch; try dsimp only
  all_goals ((repeat' split) <;> simp)
@[simp] theorem clearSwitch_gains (e : EndSwitch) : (clearSwitch e s).gains = s.gains := by
  unfold clearSwitch; try dsimp only
  all_goals ((repeat' split) <;> simp)
@[simp] theorem clearSwitch_console (e : EndSwitch) : (clearSwitch e s).console = s.console := by
  unfold clearSwitch; try dsimp only
  all_goals ((repeat' split) <;> simp)
@[simp] theorem clearSwitch_setup (e : EndSwitch) : (clearSwitch e s).setup = s.setup := by
  unfold clearSwitch; try dsimp only
  all_goals ((repeat' split) <;> simp)
@[simp] theorem clearSwitch_pins (e : EndSwitch) : (clearSwitch e s).pins = s.pins := by
  unfold clearSwitch; try dsimp only
  all_goals ((repeat' split) <;> simp)
@[simp] theorem clearSwitch_ledPhase (e : EndSwitch) : (clearSwitch e s).ledPhase = s.ledPhase := by
  unfold clearSwitch; try dsimp only
  all_goals ((repeat' split) <;> simp)
@[simp] theorem clearSwitch_choices (e : EndSwitch) : (clearSwitch e s).choices = s.choices := by
  unfold clearSwitch; try dsimp only
  all_goals ((repeat' split) <;> simp)
@[simp] theorem clearSwitch_pending (e : EndSwitch) : (clearSwitch e s).pending = s.pending := by
  unfold clearSwitch; try dsimp only
  all_goals ((repeat' split) <;> simp)

/-! #### assertDriveFault -/

@[simp] theorem assertDriveFault_uptime : (assertDriveFault s).uptime = s.uptime := by
  unfold assertDriveFault; try dsimp only
  all_goals ((repeat' split) <;> simp)
@[simp] theorem assertDriveFault_ident : (assertDriveFault s).ident = s.ident := by
  unfold assertDriveFault; try dsimp only
  all_goals ((repeat' split) <;> simp)
@[simp] theorem assertDriveFault_check : (assertDriveFault s).check = s.check := by
  unfold assertDriveFault; try dsimp only
  all_goals ((repeat' split) <;> simp)
@[simp] theorem assertDriveFault_link (hc : s.ident.role ≠ .console) :
    (assertDriveFault s).link = s.link := by
  unfold assertDriveFault; try dsimp only
  all_goals ((repeat' split) <;> simp -implicitDefEqProofs [hc])
@[simp] theorem assertDriveFault_peers : (assertDriveFault s).peers = s.peers := by
  unfold assertDriveFault; try dsimp only
  all_goals ((repeat' split) <;> simp)
@[simp] theorem assertDriveFault_vref : (assertDriveFault s).vref = s.vref := by
  unfold assertDriveFault; try dsimp only
  all_goals ((repeat' split) <;> simp)
@[simp] theorem assertDriveFault_console : (assertDriveFault s).console = s.console := by
  unfold assertDriveFault; try dsimp only
  all_goals ((repeat' split) <;> simp)
@[simp] theorem assertDriveFault_setup : (assertDriveFault s).setup = s.setup := by
  unfold assertDriveFault; try dsimp only
  all_goals ((repeat' split) <;> simp)
@[simp] theorem assertDriveFault_pins : (assertDriveFault s).pins = s.pins := by
  unfold assertDriveFault; try dsimp only
  all_goals ((repeat' split) <;> simp)
@[simp] theorem assertDriveFault_choices : (assertDriveFault s).choices = s.choices := by
  unfold assertDriveFault; try dsimp only
  all_goals ((repeat' split) <;> simp)
@[simp] theorem assertDriveFault_pending : (assertDriveFault s).pending = s.pending := by
  unfold assertDriveFault; try dsimp only
  all_goals ((repeat' split) <;> simp)

/-! #### releaseDriveFault -/

@[simp] theorem releaseDriveFault_uptime : (releaseDriveFault s).uptime = s.uptime := by
  unfold releaseDriveFault; try dsimp only
  all_goals ((repeat' split) <;> simp)
@[simp] theorem releaseDriveFault_ident : (releaseDriveFault s).ident = s.ident := by
  unfold releaseDriveFault; try dsimp only
  all_goals ((repeat' split) <;> simp)
@[simp] theorem releaseDriveFault_node : (releaseDriveFault s).node = s.node := by
  unfold releaseDriveFault; try dsimp only
  all_goals ((repeat' split) <;> simp)
@[simp] theorem releaseDriveFault_check : (releaseDriveFault s).check = s.check := by
  unfold releaseDriveFault; try dsimp only
  all_goals ((repeat' split) <;> simp)
@[simp] theorem releaseDriveFault_link : (releaseDriveFault s).link = s.link := by
  unfold releaseDriveFault; try dsimp only
  all_goals ((repeat' split) <;> simp)
@[simp] theorem releaseDriveFault_peers : (releaseDriveFault s).peers = s.peers := by
  unfold releaseDriveFault; try dsimp only
  all_goals ((repeat' split) <;> simp)
@[simp] theorem releaseDriveFault_sensor : (releaseDriveFault s).sensor = s.sensor := by
  unfold releaseDriveFault; try dsimp only
  all_goals ((repeat' split) <;> simp)
@[simp] theorem releaseDriveFault_vref : (releaseDriveFault s).vref = s.vref := by
  unfold releaseDriveFault; try dsimp only
  all_goals ((repeat' split) <;> simp)
@[simp] theorem releaseDriveFault_corr : (releaseDriveFault s).corr = s.corr := by
  unfold releaseDriveFault; try dsimp only
  all_goals ((repeat' split) <;> simp)
@[simp] theorem releaseDriveFault_gains : (releaseDriveFault s).gains = s.gains := by
  unfold releaseDriveFault; try dsimp only
  all_goals ((repeat' split) <;> simp)
@[simp] theorem releaseDriveFault_console : (releaseDriveFault s).console = s.console := by
  unfold releaseDriveFault; try dsimp only
  all_goals ((repeat' split) <;> simp)
@[simp] theorem releaseDriveFault_setup : (releaseDriveFault s).setup = s.setup := by
  unfold releaseDriveFault; try dsimp only
  all_goals ((repeat' split) <;> simp)
@[simp] theorem releaseDriveFault_pins : (releaseDriveFault s).pins = s.pins := by
  unfold releaseDriveFault; try dsimp only
  all_goals ((repeat' split) <;> simp)
@[simp] theorem releaseDriveFault_ledPhase : (releaseDriveFault s).ledPhase = s.ledPhase := by
  unfold releaseDriveFault; try dsimp only
  all_goals ((repeat' split) <;> simp)
@[simp] theorem releaseDriveFault_choices : (releaseDriveFault s).choices = s.choices := by
  unfold releaseDriveFault; try dsimp only
  all_goals ((repeat' split) <;> simp)
@[simp] theorem releaseDriveFault_pending : (releaseDriveFault s).pending = s.pending := by
  unfold releaseDriveFault; try dsimp only
  all_goals ((repeat' split) <;> simp)

/-! #### rememberAngle -/

@[simp] theorem rememberAngle_uptime (a : Int) : (rememberAngle a s).uptime = s.uptime := by
  unfold rememberAngle; try dsimp only
  all_goals ((repeat' split) <;> simp)
@[simp] theorem rememberAngle_ident (a : Int) : (rememberAngle a s).ident = s.ident := by
  unfold rememberAngle; try dsimp only
  all_goals ((repeat' split) <;> simp)
@[simp] theorem rememberAngle_node (a : Int) : (rememberAngle a s).node = s.node := by
  unfold rememberAngle; try dsimp only
  all_goals ((repeat' split) <;> simp)
@[simp] theorem rememberAngle_check (a : Int) : (rememberAngle a s).check = s.check := by
  unfold rememberAngle; try dsimp only
  all_goals ((repeat' split) <;> simp)
@[simp] theorem rememberAngle_link (a : Int) : (rememberAngle a s).link = s.link := by
  unfold rememberAngle; try dsimp only
  all_goals ((repeat' split) <;> simp)
@[simp] theorem rememberAngle_peers (a : Int) : (rememberAngle a s).peers = s.peers := by
  unfold rememberAngle; try dsimp only
  all_goals ((repeat' split) <;> simp)
@[simp] theorem rememberAngle_drive (a : Int) : (rememberAngle a s).drive = s.drive := by
  unfold rememberAngle; try dsimp only
  all_goals ((repeat' split) <;> simp)
@[simp] theorem rememberAngle_vref (a : Int) : (rememberAngle a s).vref = s.vref := by
  unfold rememberAngle; try dsimp only
  all_goals ((repeat' split) <;> simp)
@[simp] theorem rememberAngle_corr (a : Int) : (rememberAngle a s).corr = s.corr := by
  unfold rememberAngle; try dsimp only
  all_goals ((repeat' split) <;> simp)
@[simp] theorem rememberAngle_gains (a : Int) : (rememberAngle a s).gains = s.gains := by
  unfold rememberAngle; try dsimp only
  all_goals ((repeat' split) <;> simp)
@[simp] theorem rememberAngle_console (a : Int) : (rememberAngle a s).console = s.console := by
  unfold rememberAngle; try dsimp only
  all_goals ((repeat' split) <;> simp)
@[simp] theorem rememberAngle_setup (a : Int) : (rememberAngle a s).setup = s.setup := by
  unfold rememberAngle; try dsimp only
  all_goals ((repeat' split) <;> simp)
@[simp] theorem rememberAngle_pins (a : Int) : (rememberAngle a s).pins = s.pins := by
  unfold rememberAngle; try dsimp only
  all_goals ((repeat' split) <;> simp)
@[simp] theorem rememberAngle_ledPhase (a : Int) : (rememberAngle a s).ledPhase = s.ledPhase := by
  unfold rememberAngle; try dsimp only
  all_goals ((repeat' split) <;> simp)
@[simp] theorem rememberAngle_choices (a : Int) : (rememberAngle a s).choices = s.choices := by
  unfold rememberAngle; try dsimp only
  all_goals ((repeat' split) <;> simp)
@[simp] theorem rememberAngle_pending (a : Int) : (rememberAngle a s).pending = s.pending := by
  unfold rememberAngle; try dsimp only
  all_goals ((repeat' split) <;> simp)

/-! #### missReading -/

@[simp] theorem missReading_uptime : (missReading s).uptime = s.uptime := by
  unfold missReading; try dsimp only
  all_goals ((repeat' split) <;> simp)
@[simp] theorem missReading_ident : (missReading s).ident = s.ident := by
  unfold missReading; try dsimp only
  all_goals ((repeat' split) <;> simp)
@[simp] theorem missReading_check : (missReading s).check = s.check := by
  unfold missReading; try dsimp only
  all_goals ((repeat' split) <;> simp)
@[simp] theorem missReading_link (hc : s.ident.role ≠ .console) : (missReading s).link = s.link := by
  unfold missReading; try dsimp only
  all_goals ((repeat' split) <;> simp -implicitDefEqProofs [hc])
@[simp] theorem missReading_peers : (missReading s).peers = s.peers := by
  unfold missReading; try dsimp only
  all_goals ((repeat' split) <;> simp)
@[simp] theorem missReading_vref : (missReading s).vref = s.vref := by
  unfold missReading; try dsimp only
  all_goals ((repeat' split) <;> simp)
@[simp] theorem missReading_console : (missReading s).console = s.console := by
  unfold missReading; try dsimp only
  all_goals ((repeat' split) <;> simp)
@[simp] theorem missReading_setup : (missReading s).setup = s.setup := by
  unfold missReading; try dsimp only
  all_goals ((repeat' split) <;> simp)
@[simp] theorem missReading_pins : (missReading s).pins = s.pins := by
  unfold missReading; try dsimp only
  all_goals ((repeat' split) <;> simp)
@[simp] theorem missReading_choices : (missReading s).choices = s.choices := by
  unfold missReading; try dsimp only
  all_goals ((repeat' split) <;> simp)
@[simp] theorem missReading_pending : (missReading s).pending = s.pending := by
  unfold missReading; try dsimp only
  all_goals ((repeat' split) <;> simp)

/-! #### captureSample -/

@[simp] theorem captureSample_uptime (p : Sample) : (captureSample p s).uptime = s.uptime := by
  unfold captureSample; try dsimp only
  all_goals ((repeat' split) <;> simp)
@[simp] theorem captureSample_ident (p : Sample) : (captureSample p s).ident = s.ident := by
  unfold captureSample; try dsimp only
  all_goals ((repeat' split) <;> simp)
@[simp] theorem captureSample_check (p : Sample) : (captureSample p s).check = s.check := by
  unfold captureSample; try dsimp only
  all_goals ((repeat' split) <;> simp)
@[simp] theorem captureSample_link (p : Sample) : (captureSample p s).link = s.link := by
  unfold captureSample; try dsimp only
  all_goals ((repeat' split) <;> simp)
@[simp] theorem captureSample_peers (p : Sample) : (captureSample p s).peers = s.peers := by
  unfold captureSample; try dsimp only
  all_goals ((repeat' split) <;> simp)
@[simp] theorem captureSample_console (p : Sample) : (captureSample p s).console = s.console := by
  unfold captureSample; try dsimp only
  all_goals ((repeat' split) <;> simp)
@[simp] theorem captureSample_setup (p : Sample) : (captureSample p s).setup = s.setup := by
  unfold captureSample; try dsimp only
  all_goals ((repeat' split) <;> simp)
@[simp] theorem captureSample_pins (p : Sample) : (captureSample p s).pins = s.pins := by
  unfold captureSample; try dsimp only
  all_goals ((repeat' split) <;> simp)
@[simp] theorem captureSample_choices (p : Sample) : (captureSample p s).choices = s.choices := by
  unfold captureSample; try dsimp only
  all_goals ((repeat' split) <;> simp)
@[simp] theorem captureSample_pending (p : Sample) : (captureSample p s).pending = s.pending := by
  unfold captureSample; try dsimp only
  all_goals ((repeat' split) <;> simp)

/-! #### stepEncoder -/

@[simp] theorem stepEncoder_uptime (l : QuadLine) : (stepEncoder l s).uptime = s.uptime := by
  unfold stepEncoder; try dsimp only
  all_goals ((repeat' split) <;> simp)
@[simp] theorem stepEncoder_ident (l : QuadLine) : (stepEncoder l s).ident = s.ident := by
  unfold stepEncoder; try dsimp only
  all_goals ((repeat' split) <;> simp)
@[simp] theorem stepEncoder_node (l : QuadLine) : (stepEncoder l s).node = s.node := by
  unfold stepEncoder; try dsimp only
  all_goals ((repeat' split) <;> simp)
@[simp] theorem stepEncoder_check (l : QuadLine) : (stepEncoder l s).check = s.check := by
  unfold stepEncoder; try dsimp only
  all_goals ((repeat' split) <;> simp)
@[simp] theorem stepEncoder_link (l : QuadLine) : (stepEncoder l s).link = s.link := by
  unfold stepEncoder; try dsimp only
  all_goals ((repeat' split) <;> simp)
@[simp] theorem stepEncoder_peers (l : QuadLine) : (stepEncoder l s).peers = s.peers := by
  unfold stepEncoder; try dsimp only
  all_goals ((repeat' split) <;> simp)
@[simp] theorem stepEncoder_drive (l : QuadLine) : (stepEncoder l s).drive = s.drive := by
  unfold stepEncoder; try dsimp only
  all_goals ((repeat' split) <;> simp)
@[simp] theorem stepEncoder_vref (l : QuadLine) : (stepEncoder l s).vref = s.vref := by
  unfold stepEncoder; try dsimp only
  all_goals ((repeat' split) <;> simp)
@[simp] theorem stepEncoder_corr (l : QuadLine) : (stepEncoder l s).corr = s.corr := by
  unfold stepEncoder; try dsimp only
  all_goals ((repeat' split) <;> simp)
@[simp] theorem stepEncoder_gains (l : QuadLine) : (stepEncoder l s).gains = s.gains := by
  unfold stepEncoder; try dsimp only
  all_goals ((repeat' split) <;> simp)
@[simp] theorem stepEncoder_console (l : QuadLine) : (stepEncoder l s).console = s.console := by
  unfold stepEncoder; try dsimp only
  all_goals ((repeat' split) <;> simp)
@[simp] theorem stepEncoder_setup (l : QuadLine) : (stepEncoder l s).setup = s.setup := by
  unfold stepEncoder; try dsimp only
  all_goals ((repeat' split) <;> simp)
@[simp] theorem stepEncoder_ledPhase (l : QuadLine) : (stepEncoder l s).ledPhase = s.ledPhase := by
  unfold stepEncoder; try dsimp only
  all_goals ((repeat' split) <;> simp)
@[simp] theorem stepEncoder_choices (l : QuadLine) : (stepEncoder l s).choices = s.choices := by
  unfold stepEncoder; try dsimp only
  all_goals ((repeat' split) <;> simp)
@[simp] theorem stepEncoder_pending (l : QuadLine) : (stepEncoder l s).pending = s.pending := by
  unfold stepEncoder; try dsimp only
  all_goals ((repeat' split) <;> simp)

/-! #### illegalStep -/

@[simp] theorem illegalStep_uptime : (illegalStep s).uptime = s.uptime := by
  unfold illegalStep; try dsimp only
  all_goals ((repeat' split) <;> simp)
@[simp] theorem illegalStep_ident : (illegalStep s).ident = s.ident := by
  unfold illegalStep; try dsimp only
  all_goals ((repeat' split) <;> simp)
@[simp] theorem illegalStep_check : (illegalStep s).check = s.check := by
  unfold illegalStep; try dsimp only
  all_goals ((repeat' split) <;> simp)
@[simp] theorem illegalStep_link (hc : s.ident.role ≠ .console) : (illegalStep s).link = s.link := by
  unfold illegalStep; try dsimp only
  all_goals ((repeat' split) <;> simp -implicitDefEqProofs [hc])
@[simp] theorem illegalStep_peers : (illegalStep s).peers = s.peers := by
  unfold illegalStep; try dsimp only
  all_goals ((repeat' split) <;> simp)
@[simp] theorem illegalStep_vref : (illegalStep s).vref = s.vref := by
  unfold illegalStep; try dsimp only
  all_goals ((repeat' split) <;> simp)
@[simp] theorem illegalStep_console : (illegalStep s).console = s.console := by
  unfold illegalStep; try dsimp only
  all_goals ((repeat' split) <;> simp)
@[simp] theorem illegalStep_setup : (illegalStep s).setup = s.setup := by
  unfold illegalStep; try dsimp only
  all_goals ((repeat' split) <;> simp)
@[simp] theorem illegalStep_choices : (illegalStep s).choices = s.choices := by
  unfold illegalStep; try dsimp only
  all_goals ((repeat' split) <;> simp)
@[simp] theorem illegalStep_pending : (illegalStep s).pending = s.pending := by
  unfold illegalStep; try dsimp only
  all_goals ((repeat' split) <;> simp)

/-! #### indexCaptured -/

@[simp] theorem indexCaptured_uptime : (indexCaptured s).uptime = s.uptime := by
  unfold indexCaptured; try dsimp only
  all_goals ((repeat' split) <;> simp)
@[simp] theorem indexCaptured_ident : (indexCaptured s).ident = s.ident := by
  unfold indexCaptured; try dsimp only
  all_goals ((repeat' split) <;> simp)
@[simp] theorem indexCaptured_check : (indexCaptured s).check = s.check := by
  unfold indexCaptured; try dsimp only
  all_goals ((repeat' split) <;> simp)
@[simp] theorem indexCaptured_link : (indexCaptured s).link = s.link := by
  unfold indexCaptured; try dsimp only
  all_goals ((repeat' split) <;> simp)
@[simp] theorem indexCaptured_peers : (indexCaptured s).peers = s.peers := by
  unfold indexCaptured; try dsimp only
  all_goals ((repeat' split) <;> simp)
@[simp] theorem indexCaptured_vref : (indexCaptured s).vref = s.vref := by
  unfold indexCaptured; try dsimp only
  all_goals ((repeat' split) <;> simp)
@[simp] theorem indexCaptured_console : (indexCaptured s).console = s.console := by
  unfold indexCaptured; try dsimp only
  all_goals ((repeat' split) <;> simp)
@[simp] theorem indexCaptured_setup : (indexCaptured s).setup = s.setup := by
  unfold indexCaptured; try dsimp only
  all_goals ((repeat' split) <;> simp)
@[simp] theorem indexCaptured_pins : (indexCaptured s).pins = s.pins := by
  unfold indexCaptured; try dsimp only
  all_goals ((repeat' split) <;> simp)
@[simp] theorem indexCaptured_choices : (indexCaptured s).choices = s.choices := by
  unfold indexCaptured; try dsimp only
  all_goals ((repeat' split) <;> simp)
@[simp] theorem indexCaptured_pending : (indexCaptured s).pending = s.pending := by
  unfold indexCaptured; try dsimp only
  all_goals ((repeat' split) <;> simp)

/-! #### attitudeStep -/

@[simp] theorem attitudeStep_uptime (st : NodeState) (x : Axes) : (attitudeStep st x s).uptime = s.uptime := by
  unfold attitudeStep; try dsimp only
  all_goals ((repeat' split) <;> simp)
@[simp] theorem attitudeStep_ident (st : NodeState) (x : Axes) : (attitudeStep st x s).ident = s.ident := by
  unfold attitudeStep; try dsimp only
  all_goals ((repeat' split) <;> simp)
@[simp] theorem attitudeStep_node (st : NodeState) (x : Axes) : (attitudeStep st x s).node = s.node := by
  unfold attitudeStep; try dsimp only
  all_goals ((repeat' split) <;> simp)
@[simp] theorem attitudeStep_check (st : NodeState) (x : Axes) : (attitudeStep st x s).check = s.check := by
  unfold attitudeStep; try dsimp only
  all_goals ((repeat' split) <;> simp)
@[simp] theorem attitudeStep_link (st : NodeState) (x : Axes) : (attitudeStep st x s).link = s.link := by
  unfold attitudeStep; try dsimp only
  all_goals ((repeat' split) <;> simp)
@[simp] theorem attitudeStep_peers (st : NodeState) (x : Axes) : (attitudeStep st x s).peers = s.peers := by
  unfold attitudeStep; try dsimp only
  all_goals ((repeat' split) <;> simp)
@[simp] theorem attitudeStep_sensor (st : NodeState) (x : Axes) : (attitudeStep st x s).sensor = s.sensor := by
  unfold attitudeStep; try dsimp only
  all_goals ((repeat' split) <;> simp)
@[simp] theorem attitudeStep_drive (st : NodeState) (x : Axes) : (attitudeStep st x s).drive = s.drive := by
  unfold attitudeStep; try dsimp only
  all_goals ((repeat' split) <;> simp)
@[simp] theorem attitudeStep_corr (st : NodeState) (x : Axes) : (attitudeStep st x s).corr = s.corr := by
  unfold attitudeStep; try dsimp only
  all_goals ((repeat' split) <;> simp)
@[simp] theorem attitudeStep_gains (st : NodeState) (x : Axes) : (attitudeStep st x s).gains = s.gains := by
  unfold attitudeStep; try dsimp only
  all_goals ((repeat' split) <;> simp)
@[simp] theorem attitudeStep_console (st : NodeState) (x : Axes) : (attitudeStep st x s).console = s.console := by
  unfold attitudeStep; try dsimp only
  all_goals ((repeat' split) <;> simp)
@[simp] theorem attitudeStep_setup (st : NodeState) (x : Axes) : (attitudeStep st x s).setup = s.setup := by
  unfold attitudeStep; try dsimp only
  all_goals ((repeat' split) <;> simp)
@[simp] theorem attitudeStep_pins (st : NodeState) (x : Axes) : (attitudeStep st x s).pins = s.pins := by
  unfold attitudeStep; try dsimp only
  all_goals ((repeat' split) <;> simp)
@[simp] theorem attitudeStep_ledPhase (st : NodeState) (x : Axes) : (attitudeStep st x s).ledPhase = s.ledPhase := by
  unfold attitudeStep; try dsimp only
  all_goals ((repeat' split) <;> simp)
@[simp] theorem attitudeStep_choices (st : NodeState) (x : Axes) : (attitudeStep st x s).choices = s.choices := by
  unfold attitudeStep; try dsimp only
  all_goals ((repeat' split) <;> simp)
@[simp] theorem attitudeStep_pending (st : NodeState) (x : Axes) : (attitudeStep st x s).pending = s.pending := by
  unfold attitudeStep; try dsimp only
  all_goals ((repeat' split) <;> simp)

/-! #### roughnessStep -/

@[simp] theorem roughnessStep_uptime (st : NodeState) (p : Sample) : (roughnessStep st p s).uptime = s.uptime := by
  unfold roughnessStep; try dsimp only
  all_goals ((repeat' split) <;> simp)
@[simp] theorem roughnessStep_ident (st : NodeState) (p : Sample) : (roughnessStep st p s).ident = s.ident := by
  unfold roughnessStep; try dsimp only
  all_goals ((repeat' split) <;> simp)
@[simp] theorem roughnessStep_node (st : NodeState) (p : Sample) : (roughnessStep st p s).node = s.node := by
  unfold roughnessStep; try dsimp only
  all_goals ((repeat' split) <;> simp)
@[simp] theorem roughnessStep_check (st : NodeState) (p : Sample) : (roughnessStep st p s).check = s.check := by
  unfold roughnessStep; try dsimp only
  all_goals ((repeat' split) <;> simp)
@[simp] theorem roughnessStep_link (st : NodeState) (p : Sample) : (roughnessStep st p s).link = s.link := by
  unfold roughnessStep; try dsimp only
  all_goals ((repeat' split) <;> simp)
@[simp] theorem roughnessStep_peers (st : NodeState) (p : Sample) : (roughnessStep st p s).peers = s.peers := by
  unfold roughnessStep; try dsimp only
  all_goals ((repeat' split) <;> simp)
@[simp] theorem roughnessStep_drive (st : NodeState) (p : Sample) : (roughnessStep st p s).drive = s.drive := by
  unfold roughnessStep; try dsimp only
  all_goals ((repeat' split) <;> simp)
@[simp] theorem roughnessStep_corr (st : NodeState) (p : Sample) : (roughnessStep st p s).corr = s.corr := by
  unfold roughnessStep; try dsimp only
  all_goals ((repeat' split) <;> simp)
@[simp] theorem roughnessStep_gains (st : NodeState) (p : Sample) : (roughnessStep st p s).gains = s.gains := by
  unfold roughnessStep; try dsimp only
  all_goals ((repeat' split) <;> simp)
@[simp] theorem roughnessStep_console (st : NodeState) (p : Sample) : (roughnessStep st p s).console = s.console := by
  unfold roughnessStep; try dsimp only
  all_goals ((repeat' split) <;> simp)
@[simp] theorem roughnessStep_setup (st : NodeState) (p : Sample) : (roughnessStep st p s).setup = s.setup := by
  unfold roughnessStep; try dsimp only
  all_goals ((repeat' split) <;> simp)
@[simp] theorem roughnessStep_pins (st : NodeState) (p : Sample) : (roughnessStep st p s).pins = s.pins := by
  unfold roughnessStep; try dsimp only
  all_goals ((repeat' split) <;> simp)
@[simp] theorem roughnessStep_ledPhase (st : NodeState) (p : Sample) : (roughnessStep st p s).ledPhase = s.ledPhase := by
  unfold roughnessStep; try dsimp only
  all_goals ((repeat' split) <;> simp)
@[simp] theorem roughnessStep_choices (st : NodeState) (p : Sample) : (roughnessStep st p s).choices = s.choices := by
  unfold roughnessStep; try dsimp only
  all_goals ((repeat' split) <;> simp)
@[simp] theorem roughnessStep_pending (st : NodeState) (p : Sample) : (roughnessStep st p s).pending = s.pending := by
  unfold roughnessStep; try dsimp only
  all_goals ((repeat' split) <;> simp)

/-! #### testEffect -/

@[simp] theorem testEffect_uptime (t : Time) : (testEffect t s).uptime = s.uptime := by
  unfold testEffect; try dsimp only
  all_goals ((repeat' split) <;> simp)
@[simp] theorem testEffect_ident (t : Time) : (testEffect t s).ident = s.ident := by
  unfold testEffect; try dsimp only
  all_goals ((repeat' split) <;> simp)
@[simp] theorem testEffect_node (t : Time) : (testEffect t s).node = s.node := by
  unfold testEffect; try dsimp only
  all_goals ((repeat' split) <;> simp)
@[simp] theorem testEffect_check (t : Time) : (testEffect t s).check = s.check := by
  unfold testEffect; try dsimp only
  all_goals ((repeat' split) <;> simp)
@[simp] theorem testEffect_link (t : Time) : (testEffect t s).link = s.link := by
  unfold testEffect; try dsimp only
  all_goals ((repeat' split) <;> simp)
@[simp] theorem testEffect_peers (t : Time) : (testEffect t s).peers = s.peers := by
  unfold testEffect; try dsimp only
  all_goals ((repeat' split) <;> simp)
@[simp] theorem testEffect_drive (t : Time) : (testEffect t s).drive = s.drive := by
  unfold testEffect; try dsimp only
  all_goals ((repeat' split) <;> simp)
@[simp] theorem testEffect_console (t : Time) : (testEffect t s).console = s.console := by
  unfold testEffect; try dsimp only
  all_goals ((repeat' split) <;> simp)
@[simp] theorem testEffect_setup (t : Time) : (testEffect t s).setup = s.setup := by
  unfold testEffect; try dsimp only
  all_goals ((repeat' split) <;> simp)
@[simp] theorem testEffect_pins (t : Time) : (testEffect t s).pins = s.pins := by
  unfold testEffect; try dsimp only
  all_goals ((repeat' split) <;> simp)
@[simp] theorem testEffect_ledPhase (t : Time) : (testEffect t s).ledPhase = s.ledPhase := by
  unfold testEffect; try dsimp only
  all_goals ((repeat' split) <;> simp)
@[simp] theorem testEffect_choices (t : Time) : (testEffect t s).choices = s.choices := by
  unfold testEffect; try dsimp only
  all_goals ((repeat' split) <;> simp)
@[simp] theorem testEffect_pending (t : Time) : (testEffect t s).pending = s.pending := by
  unfold testEffect; try dsimp only
  all_goals ((repeat' split) <;> simp)

/-! #### regimeStep -/

@[simp] theorem regimeStep_uptime (st : NodeState) (t : Time) : (regimeStep st t s).uptime = s.uptime := by
  unfold regimeStep; try dsimp only
  all_goals ((repeat' split) <;> simp)
@[simp] theorem regimeStep_ident (st : NodeState) (t : Time) : (regimeStep st t s).ident = s.ident := by
  unfold regimeStep; try dsimp only
  all_goals ((repeat' split) <;> simp)
@[simp] theorem regimeStep_node (st : NodeState) (t : Time) : (regimeStep st t s).node = s.node := by
  unfold regimeStep; try dsimp only
  all_goals ((repeat' split) <;> simp)
@[simp] theorem regimeStep_check (st : NodeState) (t : Time) : (regimeStep st t s).check = s.check := by
  unfold regimeStep; try dsimp only
  all_goals ((repeat' split) <;> simp)
@[simp] theorem regimeStep_link (st : NodeState) (t : Time) : (regimeStep st t s).link = s.link := by
  unfold regimeStep; try dsimp only
  all_goals ((repeat' split) <;> simp)
@[simp] theorem regimeStep_peers (st : NodeState) (t : Time) : (regimeStep st t s).peers = s.peers := by
  unfold regimeStep; try dsimp only
  all_goals ((repeat' split) <;> simp)
@[simp] theorem regimeStep_drive (st : NodeState) (t : Time) : (regimeStep st t s).drive = s.drive := by
  unfold regimeStep; try dsimp only
  all_goals ((repeat' split) <;> simp)
@[simp] theorem regimeStep_console (st : NodeState) (t : Time) : (regimeStep st t s).console = s.console := by
  unfold regimeStep; try dsimp only
  all_goals ((repeat' split) <;> simp)
@[simp] theorem regimeStep_setup (st : NodeState) (t : Time) : (regimeStep st t s).setup = s.setup := by
  unfold regimeStep; try dsimp only
  all_goals ((repeat' split) <;> simp)
@[simp] theorem regimeStep_pins (st : NodeState) (t : Time) : (regimeStep st t s).pins = s.pins := by
  unfold regimeStep; try dsimp only
  all_goals ((repeat' split) <;> simp)
@[simp] theorem regimeStep_ledPhase (st : NodeState) (t : Time) : (regimeStep st t s).ledPhase = s.ledPhase := by
  unfold regimeStep; try dsimp only
  all_goals ((repeat' split) <;> simp)
@[simp] theorem regimeStep_choices (st : NodeState) (t : Time) : (regimeStep st t s).choices = s.choices := by
  unfold regimeStep; try dsimp only
  all_goals ((repeat' split) <;> simp)
@[simp] theorem regimeStep_pending (st : NodeState) (t : Time) : (regimeStep st t s).pending = s.pending := by
  unfold regimeStep; try dsimp only
  all_goals ((repeat' split) <;> simp)

/-! #### armVehicle -/

@[simp] theorem armVehicle_uptime (st : NodeState) (t : Time) (x : Axes) : (armVehicle st t x s).uptime = s.uptime := by
  unfold armVehicle; try dsimp only
  all_goals ((repeat' split) <;> simp)
@[simp] theorem armVehicle_ident (st : NodeState) (t : Time) (x : Axes) : (armVehicle st t x s).ident = s.ident := by
  unfold armVehicle; try dsimp only
  all_goals ((repeat' split) <;> simp)
@[simp] theorem armVehicle_node (st : NodeState) (t : Time) (x : Axes) : (armVehicle st t x s).node = s.node := by
  unfold armVehicle; try dsimp only
  all_goals ((repeat' split) <;> simp)
@[simp] theorem armVehicle_check (st : NodeState) (t : Time) (x : Axes) : (armVehicle st t x s).check = s.check := by
  unfold armVehicle; try dsimp only
  all_goals ((repeat' split) <;> simp)
@[simp] theorem armVehicle_peers (st : NodeState) (t : Time) (x : Axes) : (armVehicle st t x s).peers = s.peers := by
  unfold armVehicle; try dsimp only
  all_goals ((repeat' split) <;> simp)
@[simp] theorem armVehicle_sensor (st : NodeState) (t : Time) (x : Axes) : (armVehicle st t x s).sensor = s.sensor := by
  unfold armVehicle; try dsimp only
  all_goals ((repeat' split) <;> simp)
@[simp] theorem armVehicle_drive (st : NodeState) (t : Time) (x : Axes) : (armVehicle st t x s).drive = s.drive := by
  unfold armVehicle; try dsimp only
  all_goals ((repeat' split) <;> simp)
@[simp] theorem armVehicle_vref (st : NodeState) (t : Time) (x : Axes) : (armVehicle st t x s).vref = s.vref := by
  unfold armVehicle; try dsimp only
  all_goals ((repeat' split) <;> simp)
@[simp] theorem armVehicle_corr (st : NodeState) (t : Time) (x : Axes) : (armVehicle st t x s).corr = s.corr := by
  unfold armVehicle; try dsimp only
  all_goals ((repeat' split) <;> simp)
@[simp] theorem armVehicle_gains (st : NodeState) (t : Time) (x : Axes) : (armVehicle st t x s).gains = s.gains := by
  unfold armVehicle; try dsimp only
  all_goals ((repeat' split) <;> simp)
@[simp] theorem armVehicle_console (st : NodeState) (t : Time) (x : Axes) : (armVehicle st t x s).console = s.console := by
  unfold armVehicle; try dsimp only
  all_goals ((repeat' split) <;> simp)
@[simp] theorem armVehicle_setup (st : NodeState) (t : Time) (x : Axes) : (armVehicle st t x s).setup = s.setup := by
  unfold armVehicle; try dsimp only
  all_goals ((repeat' split) <;> simp)
@[simp] theorem armVehicle_pins (st : NodeState) (t : Time) (x : Axes) : (armVehicle st t x s).pins = s.pins := by
  unfold armVehicle; try dsimp only
  all_goals ((repeat' split) <;> simp)
@[simp] theorem armVehicle_ledPhase (st : NodeState) (t : Time) (x : Axes) : (armVehicle st t x s).ledPhase = s.ledPhase := by
  unfold armVehicle; try dsimp only
  all_goals ((repeat' split) <;> simp)
@[simp] theorem armVehicle_choices (st : NodeState) (t : Time) (x : Axes) : (armVehicle st t x s).choices = s.choices := by
  unfold armVehicle; try dsimp only
  all_goals ((repeat' split) <;> simp)
@[simp] theorem armVehicle_pending (st : NodeState) (t : Time) (x : Axes) : (armVehicle st t x s).pending = s.pending := by
  unfold armVehicle; try dsimp only
  all_goals ((repeat' split) <;> simp)

/-! #### vehicleSample -/

@[simp] theorem vehicleSample_uptime (st : NodeState) (p : Sample) : (vehicleSample st p s).uptime = s.uptime := by
  unfold vehicleSample; try dsimp only
  all_goals ((repeat' split) <;> simp)
@[simp] theorem vehicleSample_ident (st : NodeState) (p : Sample) : (vehicleSample st p s).ident = s.ident := by
  unfold vehicleSample; try dsimp only
  all_goals ((repeat' split) <;> simp)
@[simp] theorem vehicleSample_node (st : NodeState) (p : Sample) : (vehicleSample st p s).node = s.node := by
  unfold vehicleSample; try dsimp only
  all_goals ((repeat' split) <;> simp)
@[simp] theorem vehicleSample_check (st : NodeState) (p : Sample) : (vehicleSample st p s).check = s.check := by
  unfold vehicleSample; try dsimp only
  all_goals ((repeat' split) <;> simp)
@[simp] theorem vehicleSample_peers (st : NodeState) (p : Sample) : (vehicleSample st p s).peers = s.peers := by
  unfold vehicleSample; try dsimp only
  all_goals ((repeat' split) <;> simp)
@[simp] theorem vehicleSample_drive (st : NodeState) (p : Sample) : (vehicleSample st p s).drive = s.drive := by
  unfold vehicleSample; try dsimp only
  all_goals ((repeat' split) <;> simp)
@[simp] theorem vehicleSample_console (st : NodeState) (p : Sample) : (vehicleSample st p s).console = s.console := by
  unfold vehicleSample; try dsimp only
  all_goals ((repeat' split) <;> simp)
@[simp] theorem vehicleSample_setup (st : NodeState) (p : Sample) : (vehicleSample st p s).setup = s.setup := by
  unfold vehicleSample; try dsimp only
  all_goals ((repeat' split) <;> simp)
@[simp] theorem vehicleSample_pins (st : NodeState) (p : Sample) : (vehicleSample st p s).pins = s.pins := by
  unfold vehicleSample; try dsimp only
  all_goals ((repeat' split) <;> simp)
@[simp] theorem vehicleSample_ledPhase (st : NodeState) (p : Sample) : (vehicleSample st p s).ledPhase = s.ledPhase := by
  unfold vehicleSample; try dsimp only
  all_goals ((repeat' split) <;> simp)
@[simp] theorem vehicleSample_choices (st : NodeState) (p : Sample) : (vehicleSample st p s).choices = s.choices := by
  unfold vehicleSample; try dsimp only
  all_goals ((repeat' split) <;> simp)
@[simp] theorem vehicleSample_pending (st : NodeState) (p : Sample) : (vehicleSample st p s).pending = s.pending := by
  unfold vehicleSample; try dsimp only
  all_goals ((repeat' split) <;> simp)

/-! #### speedPulse -/

@[simp] theorem speedPulse_uptime (now : Time) : (speedPulse now s).uptime = s.uptime := by
  unfold speedPulse; try dsimp only
  all_goals ((repeat' split) <;> simp)
@[simp] theorem speedPulse_ident (now : Time) : (speedPulse now s).ident = s.ident := by
  unfold speedPulse; try dsimp only
  all_goals ((repeat' split) <;> simp)
@[simp] theorem speedPulse_node (now : Time) : (speedPulse now s).node = s.node := by
  unfold speedPulse; try dsimp only
  all_goals ((repeat' split) <;> simp)
@[simp] theorem speedPulse_check (now : Time) : (speedPulse now s).check = s.check := by
  unfold speedPulse; try dsimp only
  all_goals ((repeat' split) <;> simp)
@[simp] theorem speedPulse_link (now : Time) : (speedPulse now s).link = s.link := by
  unfold speedPulse; try dsimp only
  all_goals ((repeat' split) <;> simp)
@[simp] theorem speedPulse_peers (now : Time) : (speedPulse now s).peers = s.peers := by
  unfold speedPulse; try dsimp only
  all_goals ((repeat' split) <;> simp)
@[simp] theorem speedPulse_sensor (now : Time) : (speedPulse now s).sensor = s.sensor := by
  unfold speedPulse; try dsimp only
  all_goals ((repeat' split) <;> simp)
@[simp] theorem speedPulse_drive (now : Time) : (speedPulse now s).drive = s.drive := by
  unfold speedPulse; try dsimp only
  all_goals ((repeat' split) <;> simp)
@[simp] theorem speedPulse_corr (now : Time) : (speedPulse now s).corr = s.corr := by
  unfold speedPulse; try dsimp only
  all_goals ((repeat' split) <;> simp)
@[simp] theorem speedPulse_gains (now : Time) : (speedPulse now s).gains = s.gains := by
  unfold speedPulse; try dsimp only
  all_goals ((repeat' split) <;> simp)
@[simp] theorem speedPulse_console (now : Time) : (speedPulse now s).console = s.console := by
  unfold speedPulse; try dsimp only
  all_goals ((repeat' split) <;> simp)
@[simp] theorem speedPulse_setup (now : Time) : (speedPulse now s).setup = s.setup := by
  unfold speedPulse; try dsimp only
  all_goals ((repeat' split) <;> simp)
@[simp] theorem speedPulse_pins (now : Time) : (speedPulse now s).pins = s.pins := by
  unfold speedPulse; try dsimp only
  all_goals ((repeat' split) <;> simp)
@[simp] theorem speedPulse_ledPhase (now : Time) : (speedPulse now s).ledPhase = s.ledPhase := by
  unfold speedPulse; try dsimp only
  all_goals ((repeat' split) <;> simp)
@[simp] theorem speedPulse_choices (now : Time) : (speedPulse now s).choices = s.choices := by
  unfold speedPulse; try dsimp only
  all_goals ((repeat' split) <;> simp)
@[simp] theorem speedPulse_pending (now : Time) : (speedPulse now s).pending = s.pending := by
  unfold speedPulse; try dsimp only
  all_goals ((repeat' split) <;> simp)

/-! #### takeAim -/

@[simp] theorem takeAim_uptime : (takeAim s).uptime = s.uptime := by
  unfold takeAim; try dsimp only
  all_goals ((repeat' split) <;> simp)
@[simp] theorem takeAim_ident : (takeAim s).ident = s.ident := by
  unfold takeAim; try dsimp only
  all_goals ((repeat' split) <;> simp)
@[simp] theorem takeAim_node : (takeAim s).node = s.node := by
  unfold takeAim; try dsimp only
  all_goals ((repeat' split) <;> simp)
@[simp] theorem takeAim_check : (takeAim s).check = s.check := by
  unfold takeAim; try dsimp only
  all_goals ((repeat' split) <;> simp)
@[simp] theorem takeAim_link : (takeAim s).link = s.link := by
  unfold takeAim; try dsimp only
  all_goals ((repeat' split) <;> simp)
@[simp] theorem takeAim_peers : (takeAim s).peers = s.peers := by
  unfold takeAim; try dsimp only
  all_goals ((repeat' split) <;> simp)
@[simp] theorem takeAim_sensor : (takeAim s).sensor = s.sensor := by
  unfold takeAim; try dsimp only
  all_goals ((repeat' split) <;> simp)
@[simp] theorem takeAim_drive : (takeAim s).drive = s.drive := by
  unfold takeAim; try dsimp only
  all_goals ((repeat' split) <;> simp)
@[simp] theorem takeAim_vref : (takeAim s).vref = s.vref := by
  unfold takeAim; try dsimp only
  all_goals ((repeat' split) <;> simp)
@[simp] theorem takeAim_gains : (takeAim s).gains = s.gains := by
  unfold takeAim; try dsimp only
  all_goals ((repeat' split) <;> simp)
@[simp] theorem takeAim_console : (takeAim s).console = s.console := by
  unfold takeAim; try dsimp only
  all_goals ((repeat' split) <;> simp)
@[simp] theorem takeAim_setup : (takeAim s).setup = s.setup := by
  unfold takeAim; try dsimp only
  all_goals ((repeat' split) <;> simp)
@[simp] theorem takeAim_pins : (takeAim s).pins = s.pins := by
  unfold takeAim; try dsimp only
  all_goals ((repeat' split) <;> simp)
@[simp] theorem takeAim_ledPhase : (takeAim s).ledPhase = s.ledPhase := by
  unfold takeAim; try dsimp only
  all_goals ((repeat' split) <;> simp)
@[simp] theorem takeAim_choices : (takeAim s).choices = s.choices := by
  unfold takeAim; try dsimp only
  all_goals ((repeat' split) <;> simp)
@[simp] theorem takeAim_pending : (takeAim s).pending = s.pending := by
  unfold takeAim; try dsimp only
  all_goals ((repeat' split) <;> simp)

/-! #### aimSample -/

@[simp] theorem aimSample_uptime (st : NodeState) (t : Time) : (aimSample st t s).2.uptime = s.uptime := by
  unfold aimSample; try dsimp only
  all_goals ((repeat' split) <;> simp)
@[simp] theorem aimSample_ident (st : NodeState) (t : Time) : (aimSample st t s).2.ident = s.ident := by
  unfold aimSample; try dsimp only
  all_goals ((repeat' split) <;> simp)
@[simp] theorem aimSample_node (st : NodeState) (t : Time) : (aimSample st t s).2.node = s.node := by
  unfold aimSample; try dsimp only
  all_goals ((repeat' split) <;> simp)
@[simp] theorem aimSample_check (st : NodeState) (t : Time) : (aimSample st t s).2.check = s.check := by
  unfold aimSample; try dsimp only
  all_goals ((repeat' split) <;> simp)
@[simp] theorem aimSample_link (st : NodeState) (t : Time) : (aimSample st t s).2.link = s.link := by
  unfold aimSample; try dsimp only
  all_goals ((repeat' split) <;> simp)
@[simp] theorem aimSample_peers (st : NodeState) (t : Time) : (aimSample st t s).2.peers = s.peers := by
  unfold aimSample; try dsimp only
  all_goals ((repeat' split) <;> simp)
@[simp] theorem aimSample_sensor (st : NodeState) (t : Time) : (aimSample st t s).2.sensor = s.sensor := by
  unfold aimSample; try dsimp only
  all_goals ((repeat' split) <;> simp)
@[simp] theorem aimSample_drive (st : NodeState) (t : Time) : (aimSample st t s).2.drive = s.drive := by
  unfold aimSample; try dsimp only
  all_goals ((repeat' split) <;> simp)
@[simp] theorem aimSample_vref (st : NodeState) (t : Time) : (aimSample st t s).2.vref = s.vref := by
  unfold aimSample; try dsimp only
  all_goals ((repeat' split) <;> simp)
@[simp] theorem aimSample_console (st : NodeState) (t : Time) : (aimSample st t s).2.console = s.console := by
  unfold aimSample; try dsimp only
  all_goals ((repeat' split) <;> simp)
@[simp] theorem aimSample_setup (st : NodeState) (t : Time) : (aimSample st t s).2.setup = s.setup := by
  unfold aimSample; try dsimp only
  all_goals ((repeat' split) <;> simp)
@[simp] theorem aimSample_pins (st : NodeState) (t : Time) : (aimSample st t s).2.pins = s.pins := by
  unfold aimSample; try dsimp only
  all_goals ((repeat' split) <;> simp)
@[simp] theorem aimSample_ledPhase (st : NodeState) (t : Time) : (aimSample st t s).2.ledPhase = s.ledPhase := by
  unfold aimSample; try dsimp only
  all_goals ((repeat' split) <;> simp)
@[simp] theorem aimSample_choices (st : NodeState) (t : Time) : (aimSample st t s).2.choices = s.choices := by
  unfold aimSample; try dsimp only
  all_goals ((repeat' split) <;> simp)
@[simp] theorem aimSample_pending (st : NodeState) (t : Time) : (aimSample st t s).2.pending = s.pending := by
  unfold aimSample; try dsimp only
  all_goals ((repeat' split) <;> simp)

/-! #### reversalStep -/

@[simp] theorem reversalStep_uptime : (reversalStep s).uptime = s.uptime := by
  unfold reversalStep; try dsimp only
  all_goals ((repeat' split) <;> simp)
@[simp] theorem reversalStep_ident : (reversalStep s).ident = s.ident := by
  unfold reversalStep; try dsimp only
  all_goals ((repeat' split) <;> simp)
@[simp] theorem reversalStep_check : (reversalStep s).check = s.check := by
  unfold reversalStep; try dsimp only
  all_goals ((repeat' split) <;> simp)
@[simp] theorem reversalStep_link (hc : s.ident.role ≠ .console) : (reversalStep s).link = s.link := by
  unfold reversalStep; try dsimp only
  all_goals ((repeat' split) <;> simp -implicitDefEqProofs [hc])
@[simp] theorem reversalStep_peers : (reversalStep s).peers = s.peers := by
  unfold reversalStep; try dsimp only
  all_goals ((repeat' split) <;> simp)
@[simp] theorem reversalStep_vref : (reversalStep s).vref = s.vref := by
  unfold reversalStep; try dsimp only
  all_goals ((repeat' split) <;> simp)
@[simp] theorem reversalStep_console : (reversalStep s).console = s.console := by
  unfold reversalStep; try dsimp only
  all_goals ((repeat' split) <;> simp)
@[simp] theorem reversalStep_setup : (reversalStep s).setup = s.setup := by
  unfold reversalStep; try dsimp only
  all_goals ((repeat' split) <;> simp)
@[simp] theorem reversalStep_pins : (reversalStep s).pins = s.pins := by
  unfold reversalStep; try dsimp only
  all_goals ((repeat' split) <;> simp)
@[simp] theorem reversalStep_choices : (reversalStep s).choices = s.choices := by
  unfold reversalStep; try dsimp only
  all_goals ((repeat' split) <;> simp)
@[simp] theorem reversalStep_pending : (reversalStep s).pending = s.pending := by
  unfold reversalStep; try dsimp only
  all_goals ((repeat' split) <;> simp)

/-! #### engagedSent -/

@[simp] theorem engagedSent_uptime (l a u : Int) : (engagedSent l a u s).uptime = s.uptime := by
  unfold engagedSent; try dsimp only
  all_goals ((repeat' split) <;> simp)
@[simp] theorem engagedSent_ident (l a u : Int) : (engagedSent l a u s).ident = s.ident := by
  unfold engagedSent; try dsimp only
  all_goals ((repeat' split) <;> simp)
@[simp] theorem engagedSent_check (l a u : Int) : (engagedSent l a u s).check = s.check := by
  unfold engagedSent; try dsimp only
  all_goals ((repeat' split) <;> simp)
@[simp] theorem engagedSent_link (l a u : Int) (hc : s.ident.role ≠ .console) :
    (engagedSent l a u s).link = s.link := by
  unfold engagedSent; try dsimp only
  all_goals ((repeat' split) <;> simp -implicitDefEqProofs [hc])
@[simp] theorem engagedSent_peers (l a u : Int) : (engagedSent l a u s).peers = s.peers := by
  unfold engagedSent; try dsimp only
  all_goals ((repeat' split) <;> simp)
@[simp] theorem engagedSent_vref (l a u : Int) : (engagedSent l a u s).vref = s.vref := by
  unfold engagedSent; try dsimp only
  all_goals ((repeat' split) <;> simp)
@[simp] theorem engagedSent_console (l a u : Int) : (engagedSent l a u s).console = s.console := by
  unfold engagedSent; try dsimp only
  all_goals ((repeat' split) <;> simp)
@[simp] theorem engagedSent_setup (l a u : Int) : (engagedSent l a u s).setup = s.setup := by
  unfold engagedSent; try dsimp only
  all_goals ((repeat' split) <;> simp)
@[simp] theorem engagedSent_pins (l a u : Int) : (engagedSent l a u s).pins = s.pins := by
  unfold engagedSent; try dsimp only
  all_goals ((repeat' split) <;> simp)
@[simp] theorem engagedSent_choices (l a u : Int) : (engagedSent l a u s).choices = s.choices := by
  unfold engagedSent; try dsimp only
  all_goals ((repeat' split) <;> simp)
@[simp] theorem engagedSent_pending (l a u : Int) : (engagedSent l a u s).pending = s.pending := by
  unfold engagedSent; try dsimp only
  all_goals ((repeat' split) <;> simp)

/-! #### engagedSample -/

@[simp] theorem engagedSample_uptime (a b c : Int) : (engagedSample a b c s).uptime = s.uptime := by
  unfold engagedSample; try dsimp only
  all_goals ((repeat' split) <;> simp)
@[simp] theorem engagedSample_ident (a b c : Int) : (engagedSample a b c s).ident = s.ident := by
  unfold engagedSample; try dsimp only
  all_goals ((repeat' split) <;> simp)
@[simp] theorem engagedSample_check (a b c : Int) : (engagedSample a b c s).check = s.check := by
  unfold engagedSample; try dsimp only
  all_goals ((repeat' split) <;> simp)
@[simp] theorem engagedSample_link (a b c : Int) (hc : s.ident.role ≠ .console) :
    (engagedSample a b c s).link = s.link := by
  unfold engagedSample; try dsimp only
  all_goals ((repeat' split) <;> simp -implicitDefEqProofs [hc])
@[simp] theorem engagedSample_peers (a b c : Int) : (engagedSample a b c s).peers = s.peers := by
  unfold engagedSample; try dsimp only
  all_goals ((repeat' split) <;> simp)
@[simp] theorem engagedSample_vref (a b c : Int) : (engagedSample a b c s).vref = s.vref := by
  unfold engagedSample; try dsimp only
  all_goals ((repeat' split) <;> simp)
@[simp] theorem engagedSample_console (a b c : Int) : (engagedSample a b c s).console = s.console := by
  unfold engagedSample; try dsimp only
  all_goals ((repeat' split) <;> simp)
@[simp] theorem engagedSample_setup (a b c : Int) : (engagedSample a b c s).setup = s.setup := by
  unfold engagedSample; try dsimp only
  all_goals ((repeat' split) <;> simp)
@[simp] theorem engagedSample_pins (a b c : Int) : (engagedSample a b c s).pins = s.pins := by
  unfold engagedSample; try dsimp only
  all_goals ((repeat' split) <;> simp)
@[simp] theorem engagedSample_pending (a b c : Int) : (engagedSample a b c s).pending = s.pending := by
  unfold engagedSample; try dsimp only
  all_goals ((repeat' split) <;> simp)

/-! #### commandSample -/

@[simp] theorem commandSample_uptime (st : NodeState) (a b c : Int) : (commandSample st a b c s).uptime = s.uptime := by
  unfold commandSample; try dsimp only
  all_goals ((repeat' split) <;> simp)
@[simp] theorem commandSample_ident (st : NodeState) (a b c : Int) : (commandSample st a b c s).ident = s.ident := by
  unfold commandSample; try dsimp only
  all_goals ((repeat' split) <;> simp)
@[simp] theorem commandSample_check (st : NodeState) (a b c : Int) : (commandSample st a b c s).check = s.check := by
  unfold commandSample; try dsimp only
  all_goals ((repeat' split) <;> simp)
@[simp] theorem commandSample_link (st : NodeState) (a b c : Int) (hc : s.ident.role ≠ .console) :
    (commandSample st a b c s).link = s.link := by
  unfold commandSample; try dsimp only
  all_goals ((repeat' split) <;> simp -implicitDefEqProofs [hc])
@[simp] theorem commandSample_peers (st : NodeState) (a b c : Int) : (commandSample st a b c s).peers = s.peers := by
  unfold commandSample; try dsimp only
  all_goals ((repeat' split) <;> simp)
@[simp] theorem commandSample_vref (st : NodeState) (a b c : Int) : (commandSample st a b c s).vref = s.vref := by
  unfold commandSample; try dsimp only
  all_goals ((repeat' split) <;> simp)
@[simp] theorem commandSample_console (st : NodeState) (a b c : Int) : (commandSample st a b c s).console = s.console := by
  unfold commandSample; try dsimp only
  all_goals ((repeat' split) <;> simp)
@[simp] theorem commandSample_setup (st : NodeState) (a b c : Int) : (commandSample st a b c s).setup = s.setup := by
  unfold commandSample; try dsimp only
  all_goals ((repeat' split) <;> simp)
@[simp] theorem commandSample_pins (st : NodeState) (a b c : Int) : (commandSample st a b c s).pins = s.pins := by
  unfold commandSample; try dsimp only
  all_goals ((repeat' split) <;> simp)
@[simp] theorem commandSample_pending (st : NodeState) (a b c : Int) : (commandSample st a b c s).pending = s.pending := by
  unfold commandSample; try dsimp only
  all_goals ((repeat' split) <;> simp)

/-! #### armReport -/

@[simp] theorem armReport_uptime (t : Time) (f : Byte → ReportPayload) : (armReport t f s).uptime = s.uptime := by
  unfold armReport; try dsimp only
  all_goals ((repeat' split) <;> simp)
@[simp] theorem armReport_ident (t : Time) (f : Byte → ReportPayload) : (armReport t f s).ident = s.ident := by
  unfold armReport; try dsimp only
  all_goals ((repeat' split) <;> simp)
@[simp] theorem armReport_node (t : Time) (f : Byte → ReportPayload) : (armReport t f s).node = s.node := by
  unfold armReport; try dsimp only
  all_goals ((repeat' split) <;> simp)
@[simp] theorem armReport_check (t : Time) (f : Byte → ReportPayload) : (armReport t f s).check = s.check := by
  unfold armReport; try dsimp only
  all_goals ((repeat' split) <;> simp)
@[simp] theorem armReport_peers (t : Time) (f : Byte → ReportPayload) : (armReport t f s).peers = s.peers := by
  unfold armReport; try dsimp only
  all_goals ((repeat' split) <;> simp)
@[simp] theorem armReport_sensor (t : Time) (f : Byte → ReportPayload) : (armReport t f s).sensor = s.sensor := by
  unfold armReport; try dsimp only
  all_goals ((repeat' split) <;> simp)
@[simp] theorem armReport_drive (t : Time) (f : Byte → ReportPayload) : (armReport t f s).drive = s.drive := by
  unfold armReport; try dsimp only
  all_goals ((repeat' split) <;> simp)
@[simp] theorem armReport_vref (t : Time) (f : Byte → ReportPayload) : (armReport t f s).vref = s.vref := by
  unfold armReport; try dsimp only
  all_goals ((repeat' split) <;> simp)
@[simp] theorem armReport_corr (t : Time) (f : Byte → ReportPayload) : (armReport t f s).corr = s.corr := by
  unfold armReport; try dsimp only
  all_goals ((repeat' split) <;> simp)
@[simp] theorem armReport_gains (t : Time) (f : Byte → ReportPayload) : (armReport t f s).gains = s.gains := by
  unfold armReport; try dsimp only
  all_goals ((repeat' split) <;> simp)
@[simp] theorem armReport_console (t : Time) (f : Byte → ReportPayload) : (armReport t f s).console = s.console := by
  unfold armReport; try dsimp only
  all_goals ((repeat' split) <;> simp)
@[simp] theorem armReport_setup (t : Time) (f : Byte → ReportPayload) : (armReport t f s).setup = s.setup := by
  unfold armReport; try dsimp only
  all_goals ((repeat' split) <;> simp)
@[simp] theorem armReport_pins (t : Time) (f : Byte → ReportPayload) : (armReport t f s).pins = s.pins := by
  unfold armReport; try dsimp only
  all_goals ((repeat' split) <;> simp)
@[simp] theorem armReport_ledPhase (t : Time) (f : Byte → ReportPayload) : (armReport t f s).ledPhase = s.ledPhase := by
  unfold armReport; try dsimp only
  all_goals ((repeat' split) <;> simp)
@[simp] theorem armReport_choices (t : Time) (f : Byte → ReportPayload) : (armReport t f s).choices = s.choices := by
  unfold armReport; try dsimp only
  all_goals ((repeat' split) <;> simp)
@[simp] theorem armReport_pending (t : Time) (f : Byte → ReportPayload) : (armReport t f s).pending = s.pending := by
  unfold armReport; try dsimp only
  all_goals ((repeat' split) <;> simp)

/-! #### settlingSample -/

@[simp] theorem settlingSample_uptime (st : NodeState) (p : Sample) : (settlingSample st p s).uptime = s.uptime := by
  unfold settlingSample; try dsimp only
  all_goals ((repeat' split) <;> simp)
@[simp] theorem settlingSample_ident (st : NodeState) (p : Sample) : (settlingSample st p s).ident = s.ident := by
  unfold settlingSample; try dsimp only
  all_goals ((repeat' split) <;> simp)
@[simp] theorem settlingSample_check (st : NodeState) (p : Sample) : (settlingSample st p s).check = s.check := by
  unfold settlingSample; try dsimp only
  all_goals ((repeat' split) <;> simp)
@[simp] theorem settlingSample_link (st : NodeState) (p : Sample) : (settlingSample st p s).link = s.link := by
  unfold settlingSample; try dsimp only
  all_goals ((repeat' split) <;> simp)
@[simp] theorem settlingSample_peers (st : NodeState) (p : Sample) : (settlingSample st p s).peers = s.peers := by
  unfold settlingSample; try dsimp only
  all_goals ((repeat' split) <;> simp)
@[simp] theorem settlingSample_console (st : NodeState) (p : Sample) : (settlingSample st p s).console = s.console := by
  unfold settlingSample; try dsimp only
  all_goals ((repeat' split) <;> simp)
@[simp] theorem settlingSample_setup (st : NodeState) (p : Sample) : (settlingSample st p s).setup = s.setup := by
  unfold settlingSample; try dsimp only
  all_goals ((repeat' split) <;> simp)
@[simp] theorem settlingSample_pins (st : NodeState) (p : Sample) : (settlingSample st p s).pins = s.pins := by
  unfold settlingSample; try dsimp only
  all_goals ((repeat' split) <;> simp)
@[simp] theorem settlingSample_choices (st : NodeState) (p : Sample) : (settlingSample st p s).choices = s.choices := by
  unfold settlingSample; try dsimp only
  all_goals ((repeat' split) <;> simp)
@[simp] theorem settlingSample_pending (st : NodeState) (p : Sample) : (settlingSample st p s).pending = s.pending := by
  unfold settlingSample; try dsimp only
  all_goals ((repeat' split) <;> simp)

/-! #### correctionSample -/

@[simp] theorem correctionSample_uptime (st : NodeState) (p : Sample) : (correctionSample st p s).uptime = s.uptime := by
  unfold correctionSample; try dsimp only
  all_goals ((repeat' split) <;> simp)
@[simp] theorem correctionSample_ident (st : NodeState) (p : Sample) : (correctionSample st p s).ident = s.ident := by
  unfold correctionSample; try dsimp only
  all_goals ((repeat' split) <;> simp)
@[simp] theorem correctionSample_check (st : NodeState) (p : Sample) : (correctionSample st p s).check = s.check := by
  unfold correctionSample; try dsimp only
  all_goals ((repeat' split) <;> simp)
@[simp] theorem correctionSample_peers (st : NodeState) (p : Sample) : (correctionSample st p s).peers = s.peers := by
  unfold correctionSample; try dsimp only
  all_goals ((repeat' split) <;> simp)
@[simp] theorem correctionSample_console (st : NodeState) (p : Sample) : (correctionSample st p s).console = s.console := by
  unfold correctionSample; try dsimp only
  all_goals ((repeat' split) <;> simp)
@[simp] theorem correctionSample_setup (st : NodeState) (p : Sample) : (correctionSample st p s).setup = s.setup := by
  unfold correctionSample; try dsimp only
  all_goals ((repeat' split) <;> simp)
@[simp] theorem correctionSample_pins (st : NodeState) (p : Sample) : (correctionSample st p s).pins = s.pins := by
  unfold correctionSample; try dsimp only
  all_goals ((repeat' split) <;> simp)
@[simp] theorem correctionSample_pending (st : NodeState) (p : Sample) : (correctionSample st p s).pending = s.pending := by
  unfold correctionSample; try dsimp only
  all_goals ((repeat' split) <;> simp)

/-! #### holdExitStep -/

@[simp] theorem holdExitStep_uptime (st : NodeState) : (holdExitStep st s).uptime = s.uptime := by
  unfold holdExitStep; try dsimp only
  all_goals ((repeat' split) <;> simp)
@[simp] theorem holdExitStep_ident (st : NodeState) : (holdExitStep st s).ident = s.ident := by
  unfold holdExitStep; try dsimp only
  all_goals ((repeat' split) <;> simp)
@[simp] theorem holdExitStep_check (st : NodeState) : (holdExitStep st s).check = s.check := by
  unfold holdExitStep; try dsimp only
  all_goals ((repeat' split) <;> simp)
@[simp] theorem holdExitStep_link (st : NodeState) : (holdExitStep st s).link = s.link := by
  unfold holdExitStep; try dsimp only
  all_goals ((repeat' split) <;> simp)
@[simp] theorem holdExitStep_peers (st : NodeState) : (holdExitStep st s).peers = s.peers := by
  unfold holdExitStep; try dsimp only
  all_goals ((repeat' split) <;> simp)
@[simp] theorem holdExitStep_vref (st : NodeState) : (holdExitStep st s).vref = s.vref := by
  unfold holdExitStep; try dsimp only
  all_goals ((repeat' split) <;> simp)
@[simp] theorem holdExitStep_console (st : NodeState) : (holdExitStep st s).console = s.console := by
  unfold holdExitStep; try dsimp only
  all_goals ((repeat' split) <;> simp)
@[simp] theorem holdExitStep_setup (st : NodeState) : (holdExitStep st s).setup = s.setup := by
  unfold holdExitStep; try dsimp only
  all_goals ((repeat' split) <;> simp)
@[simp] theorem holdExitStep_pins (st : NodeState) : (holdExitStep st s).pins = s.pins := by
  unfold holdExitStep; try dsimp only
  all_goals ((repeat' split) <;> simp)
@[simp] theorem holdExitStep_choices (st : NodeState) : (holdExitStep st s).choices = s.choices := by
  unfold holdExitStep; try dsimp only
  all_goals ((repeat' split) <;> simp)
@[simp] theorem holdExitStep_pending (st : NodeState) : (holdExitStep st s).pending = s.pending := by
  unfold holdExitStep; try dsimp only
  all_goals ((repeat' split) <;> simp)

/-! #### evaluateFor -/

@[simp] theorem evaluateFor_uptime (t : Time) : (evaluateFor t s).uptime = s.uptime := by
  unfold evaluateFor; try dsimp only
  all_goals ((repeat' split) <;> simp)
@[simp] theorem evaluateFor_ident (t : Time) : (evaluateFor t s).ident = s.ident := by
  unfold evaluateFor; try dsimp only
  all_goals ((repeat' split) <;> simp)
@[simp] theorem evaluateFor_check (t : Time) : (evaluateFor t s).check = s.check := by
  unfold evaluateFor; try dsimp only
  all_goals ((repeat' split) <;> simp)
@[simp] theorem evaluateFor_link (t : Time) : (evaluateFor t s).link = s.link := by
  unfold evaluateFor; try dsimp only
  all_goals ((repeat' split) <;> simp)
@[simp] theorem evaluateFor_vref (t : Time) : (evaluateFor t s).vref = s.vref := by
  unfold evaluateFor; try dsimp only
  all_goals ((repeat' split) <;> simp)
@[simp] theorem evaluateFor_console (t : Time) : (evaluateFor t s).console = s.console := by
  unfold evaluateFor; try dsimp only
  all_goals ((repeat' split) <;> simp)
@[simp] theorem evaluateFor_setup (t : Time) : (evaluateFor t s).setup = s.setup := by
  unfold evaluateFor; try dsimp only
  all_goals ((repeat' split) <;> simp)
@[simp] theorem evaluateFor_pins (t : Time) : (evaluateFor t s).pins = s.pins := by
  unfold evaluateFor; try dsimp only
  all_goals ((repeat' split) <;> simp)
@[simp] theorem evaluateFor_choices (t : Time) : (evaluateFor t s).choices = s.choices := by
  unfold evaluateFor; try dsimp only
  all_goals ((repeat' split) <;> simp)
@[simp] theorem evaluateFor_pending (t : Time) : (evaluateFor t s).pending = s.pending := by
  unfold evaluateFor; try dsimp only
  all_goals ((repeat' split) <;> simp)

/-! #### peerJointSample -/

@[simp] theorem peerJointSample_uptime (st : NodeState) (t : Time) : (peerJointSample st t s).uptime = s.uptime := by
  unfold peerJointSample; try dsimp only
  all_goals ((repeat' split) <;> simp)
@[simp] theorem peerJointSample_ident (st : NodeState) (t : Time) : (peerJointSample st t s).ident = s.ident := by
  unfold peerJointSample; try dsimp only
  all_goals ((repeat' split) <;> simp)
@[simp] theorem peerJointSample_node (st : NodeState) (t : Time) : (peerJointSample st t s).node = s.node := by
  unfold peerJointSample; try dsimp only
  all_goals ((repeat' split) <;> simp)
@[simp] theorem peerJointSample_check (st : NodeState) (t : Time) : (peerJointSample st t s).check = s.check := by
  unfold peerJointSample; try dsimp only
  all_goals ((repeat' split) <;> simp)
@[simp] theorem peerJointSample_link (st : NodeState) (t : Time) : (peerJointSample st t s).link = s.link := by
  unfold peerJointSample; try dsimp only
  all_goals ((repeat' split) <;> simp)
@[simp] theorem peerJointSample_peers (st : NodeState) (t : Time) : (peerJointSample st t s).peers = s.peers := by
  unfold peerJointSample; try dsimp only
  all_goals ((repeat' split) <;> simp)
@[simp] theorem peerJointSample_drive (st : NodeState) (t : Time) : (peerJointSample st t s).drive = s.drive := by
  unfold peerJointSample; try dsimp only
  all_goals ((repeat' split) <;> simp)
@[simp] theorem peerJointSample_vref (st : NodeState) (t : Time) : (peerJointSample st t s).vref = s.vref := by
  unfold peerJointSample; try dsimp only
  all_goals ((repeat' split) <;> simp)
@[simp] theorem peerJointSample_console (st : NodeState) (t : Time) : (peerJointSample st t s).console = s.console := by
  unfold peerJointSample; try dsimp only
  all_goals ((repeat' split) <;> simp)
@[simp] theorem peerJointSample_setup (st : NodeState) (t : Time) : (peerJointSample st t s).setup = s.setup := by
  unfold peerJointSample; try dsimp only
  all_goals ((repeat' split) <;> simp)
@[simp] theorem peerJointSample_pins (st : NodeState) (t : Time) : (peerJointSample st t s).pins = s.pins := by
  unfold peerJointSample; try dsimp only
  all_goals ((repeat' split) <;> simp)
@[simp] theorem peerJointSample_ledPhase (st : NodeState) (t : Time) : (peerJointSample st t s).ledPhase = s.ledPhase := by
  unfold peerJointSample; try dsimp only
  all_goals ((repeat' split) <;> simp)
@[simp] theorem peerJointSample_choices (st : NodeState) (t : Time) : (peerJointSample st t s).choices = s.choices := by
  unfold peerJointSample; try dsimp only
  all_goals ((repeat' split) <;> simp)
@[simp] theorem peerJointSample_pending (st : NodeState) (t : Time) : (peerJointSample st t s).pending = s.pending := by
  unfold peerJointSample; try dsimp only
  all_goals ((repeat' split) <;> simp)

/-! #### upstream -/

@[simp] theorem upstream_uptime (st : NodeState) (p : Sample) : (upstream st p s).uptime = s.uptime := by
  unfold upstream; try dsimp only
  all_goals ((repeat' split) <;> simp)
@[simp] theorem upstream_ident (st : NodeState) (p : Sample) : (upstream st p s).ident = s.ident := by
  unfold upstream; try dsimp only
  all_goals ((repeat' split) <;> simp)
@[simp] theorem upstream_check (st : NodeState) (p : Sample) : (upstream st p s).check = s.check := by
  unfold upstream; try dsimp only
  all_goals ((repeat' split) <;> simp)
@[simp] theorem upstream_peers (st : NodeState) (p : Sample) : (upstream st p s).peers = s.peers := by
  unfold upstream; try dsimp only
  all_goals ((repeat' split) <;> simp)
@[simp] theorem upstream_console (st : NodeState) (p : Sample) : (upstream st p s).console = s.console := by
  unfold upstream; try dsimp only
  all_goals ((repeat' split) <;> simp)
@[simp] theorem upstream_setup (st : NodeState) (p : Sample) : (upstream st p s).setup = s.setup := by
  unfold upstream; try dsimp only
  all_goals ((repeat' split) <;> simp)
@[simp] theorem upstream_pins (st : NodeState) (p : Sample) : (upstream st p s).pins = s.pins := by
  unfold upstream; try dsimp only
  all_goals ((repeat' split) <;> simp)
@[simp] theorem upstream_choices (st : NodeState) (p : Sample) : (upstream st p s).choices = s.choices := by
  unfold upstream; try dsimp only
  all_goals ((repeat' split) <;> simp)
@[simp] theorem upstream_pending (st : NodeState) (p : Sample) : (upstream st p s).pending = s.pending := by
  unfold upstream; try dsimp only
  all_goals ((repeat' split) <;> simp)

/-! #### handOn -/

@[simp] theorem handOn_uptime (st : NodeState) (p : Sample) : (handOn st p s).uptime = s.uptime := by
  unfold handOn; try dsimp only
  all_goals ((repeat' split) <;> simp)
@[simp] theorem handOn_ident (st : NodeState) (p : Sample) : (handOn st p s).ident = s.ident := by
  unfold handOn; try dsimp only
  all_goals ((repeat' split) <;> simp)
@[simp] theorem handOn_check (st : NodeState) (p : Sample) : (handOn st p s).check = s.check := by
  unfold handOn; try dsimp only
  all_goals ((repeat' split) <;> simp)
@[simp] theorem handOn_peers (st : NodeState) (p : Sample) : (handOn st p s).peers = s.peers := by
  unfold handOn; try dsimp only
  all_goals ((repeat' split) <;> simp)
@[simp] theorem handOn_console (st : NodeState) (p : Sample) : (handOn st p s).console = s.console := by
  unfold handOn; try dsimp only
  all_goals ((repeat' split) <;> simp)
@[simp] theorem handOn_setup (st : NodeState) (p : Sample) : (handOn st p s).setup = s.setup := by
  unfold handOn; try dsimp only
  all_goals ((repeat' split) <;> simp)
@[simp] theorem handOn_pins (st : NodeState) (p : Sample) : (handOn st p s).pins = s.pins := by
  unfold handOn; try dsimp only
  all_goals ((repeat' split) <;> simp)
@[simp] theorem handOn_pending (st : NodeState) (p : Sample) : (handOn st p s).pending = s.pending := by
  unfold handOn; try dsimp only
  all_goals ((repeat' split) <;> simp)

/-! #### evaluated -/

@[simp] theorem evaluated_uptime (q : Request) (p : Sample) : (evaluated q p s).uptime = s.uptime := by
  unfold evaluated; try dsimp only
  all_goals ((repeat' split) <;> simp)
@[simp] theorem evaluated_ident (q : Request) (p : Sample) : (evaluated q p s).ident = s.ident := by
  unfold evaluated; try dsimp only
  all_goals ((repeat' split) <;> simp)
@[simp] theorem evaluated_check (q : Request) (p : Sample) : (evaluated q p s).check = s.check := by
  unfold evaluated; try dsimp only
  all_goals ((repeat' split) <;> simp)
@[simp] theorem evaluated_link (q : Request) (p : Sample) : (evaluated q p s).link = s.link := by
  unfold evaluated; try dsimp only
  all_goals ((repeat' split) <;> simp)
@[simp] theorem evaluated_vref (q : Request) (p : Sample) : (evaluated q p s).vref = s.vref := by
  unfold evaluated; try dsimp only
  all_goals ((repeat' split) <;> simp)
@[simp] theorem evaluated_console (q : Request) (p : Sample) : (evaluated q p s).console = s.console := by
  unfold evaluated; try dsimp only
  all_goals ((repeat' split) <;> simp)
@[simp] theorem evaluated_setup (q : Request) (p : Sample) : (evaluated q p s).setup = s.setup := by
  unfold evaluated; try dsimp only
  all_goals ((repeat' split) <;> simp)
@[simp] theorem evaluated_pins (q : Request) (p : Sample) : (evaluated q p s).pins = s.pins := by
  unfold evaluated; try dsimp only
  all_goals ((repeat' split) <;> simp)
@[simp] theorem evaluated_choices (q : Request) (p : Sample) : (evaluated q p s).choices = s.choices := by
  unfold evaluated; try dsimp only
  all_goals ((repeat' split) <;> simp)
@[simp] theorem evaluated_pending (q : Request) (p : Sample) : (evaluated q p s).pending = s.pending := by
  unfold evaluated; try dsimp only
  all_goals ((repeat' split) <;> simp)

/-! #### deliver -/

@[simp] theorem deliver_uptime (q : Request) (v : Bool) : (deliver q v s).uptime = s.uptime := by
  unfold deliver; try dsimp only
  all_goals ((repeat' split) <;> simp)
@[simp] theorem deliver_ident (q : Request) (v : Bool) : (deliver q v s).ident = s.ident := by
  unfold deliver; try dsimp only
  all_goals ((repeat' split) <;> simp)
@[simp] theorem deliver_check (q : Request) (v : Bool) : (deliver q v s).check = s.check := by
  unfold deliver; try dsimp only
  all_goals ((repeat' split) <;> simp)
@[simp] theorem deliver_console (q : Request) (v : Bool) : (deliver q v s).console = s.console := by
  unfold deliver; try dsimp only
  all_goals ((repeat' split) <;> simp)
@[simp] theorem deliver_setup (q : Request) (v : Bool) : (deliver q v s).setup = s.setup := by
  unfold deliver; try dsimp only
  all_goals ((repeat' split) <;> simp)
@[simp] theorem deliver_pins (q : Request) (v : Bool) : (deliver q v s).pins = s.pins := by
  unfold deliver; try dsimp only
  all_goals ((repeat' split) <;> simp)
@[simp] theorem deliver_pending (q : Request) (v : Bool) : (deliver q v s).pending = s.pending := by
  unfold deliver; try dsimp only
  all_goals ((repeat' split) <;> simp)

/-! #### abandonRequest -/

@[simp] theorem abandonRequest_uptime : (abandonRequest s).uptime = s.uptime := by
  unfold abandonRequest; try dsimp only
  all_goals ((repeat' split) <;> simp)
@[simp] theorem abandonRequest_ident : (abandonRequest s).ident = s.ident := by
  unfold abandonRequest; try dsimp only
  all_goals ((repeat' split) <;> simp)
@[simp] theorem abandonRequest_check : (abandonRequest s).check = s.check := by
  unfold abandonRequest; try dsimp only
  all_goals ((repeat' split) <;> simp)
@[simp] theorem abandonRequest_console : (abandonRequest s).console = s.console := by
  unfold abandonRequest; try dsimp only
  all_goals ((repeat' split) <;> simp)
@[simp] theorem abandonRequest_setup : (abandonRequest s).setup = s.setup := by
  unfold abandonRequest; try dsimp only
  all_goals ((repeat' split) <;> simp)
@[simp] theorem abandonRequest_pins : (abandonRequest s).pins = s.pins := by
  unfold abandonRequest; try dsimp only
  all_goals ((repeat' split) <;> simp)
@[simp] theorem abandonRequest_pending : (abandonRequest s).pending = s.pending := by
  unfold abandonRequest; try dsimp only
  all_goals ((repeat' split) <;> simp)

/-! #### sendRequest -/

@[simp] theorem sendRequest_uptime (now : Time) (c : BitVec 32) : (sendRequest now c s).uptime = s.uptime := by
  unfold sendRequest; try dsimp only
  all_goals ((repeat' split) <;> simp)
@[simp] theorem sendRequest_ident (now : Time) (c : BitVec 32) : (sendRequest now c s).ident = s.ident := by
  unfold sendRequest; try dsimp only
  all_goals ((repeat' split) <;> simp)
@[simp] theorem sendRequest_node (now : Time) (c : BitVec 32) : (sendRequest now c s).node = s.node := by
  unfold sendRequest; try dsimp only
  all_goals ((repeat' split) <;> simp)
@[simp] theorem sendRequest_check (now : Time) (c : BitVec 32) : (sendRequest now c s).check = s.check := by
  unfold sendRequest; try dsimp only
  all_goals ((repeat' split) <;> simp)
@[simp] theorem sendRequest_link (now : Time) (c : BitVec 32) : (sendRequest now c s).link = s.link := by
  unfold sendRequest; try dsimp only
  all_goals ((repeat' split) <;> simp)
@[simp] theorem sendRequest_peers (now : Time) (c : BitVec 32) : (sendRequest now c s).peers = s.peers := by
  unfold sendRequest; try dsimp only
  all_goals ((repeat' split) <;> simp)
@[simp] theorem sendRequest_drive (now : Time) (c : BitVec 32) : (sendRequest now c s).drive = s.drive := by
  unfold sendRequest; try dsimp only
  all_goals ((repeat' split) <;> simp)
@[simp] theorem sendRequest_vref (now : Time) (c : BitVec 32) : (sendRequest now c s).vref = s.vref := by
  unfold sendRequest; try dsimp only
  all_goals ((repeat' split) <;> simp)
@[simp] theorem sendRequest_corr (now : Time) (c : BitVec 32) : (sendRequest now c s).corr = s.corr := by
  unfold sendRequest; try dsimp only
  all_goals ((repeat' split) <;> simp)
@[simp] theorem sendRequest_gains (now : Time) (c : BitVec 32) : (sendRequest now c s).gains = s.gains := by
  unfold sendRequest; try dsimp only
  all_goals ((repeat' split) <;> simp)
@[simp] theorem sendRequest_console (now : Time) (c : BitVec 32) : (sendRequest now c s).console = s.console := by
  unfold sendRequest; try dsimp only
  all_goals ((repeat' split) <;> simp)
@[simp] theorem sendRequest_setup (now : Time) (c : BitVec 32) : (sendRequest now c s).setup = s.setup := by
  unfold sendRequest; try dsimp only
  all_goals ((repeat' split) <;> simp)
@[simp] theorem sendRequest_pins (now : Time) (c : BitVec 32) : (sendRequest now c s).pins = s.pins := by
  unfold sendRequest; try dsimp only
  all_goals ((repeat' split) <;> simp)
@[simp] theorem sendRequest_ledPhase (now : Time) (c : BitVec 32) : (sendRequest now c s).ledPhase = s.ledPhase := by
  unfold sendRequest; try dsimp only
  all_goals ((repeat' split) <;> simp)
@[simp] theorem sendRequest_choices (now : Time) (c : BitVec 32) : (sendRequest now c s).choices = s.choices := by
  unfold sendRequest; try dsimp only
  all_goals ((repeat' split) <;> simp)
@[simp] theorem sendRequest_pending (now : Time) (c : BitVec 32) : (sendRequest now c s).pending = s.pending := by
  unfold sendRequest; try dsimp only
  all_goals ((repeat' split) <;> simp)

/-! #### liveSample -/

@[simp] theorem liveSample_uptime (m : Bool) (t : Time) : (liveSample m t s).uptime = s.uptime := by
  unfold liveSample; try dsimp only
  all_goals ((repeat' split) <;> simp)
@[simp] theorem liveSample_ident (m : Bool) (t : Time) : (liveSample m t s).ident = s.ident := by
  unfold liveSample; try dsimp only
  all_goals ((repeat' split) <;> simp)
@[simp] theorem liveSample_node (m : Bool) (t : Time) : (liveSample m t s).node = s.node := by
  unfold liveSample; try dsimp only
  all_goals ((repeat' split) <;> simp)
@[simp] theorem liveSample_check (m : Bool) (t : Time) : (liveSample m t s).check = s.check := by
  unfold liveSample; try dsimp only
  all_goals ((repeat' split) <;> simp)
@[simp] theorem liveSample_peers (m : Bool) (t : Time) : (liveSample m t s).peers = s.peers := by
  unfold liveSample; try dsimp only
  all_goals ((repeat' split) <;> simp)
@[simp] theorem liveSample_sensor (m : Bool) (t : Time) : (liveSample m t s).sensor = s.sensor := by
  unfold liveSample; try dsimp only
  all_goals ((repeat' split) <;> simp)
@[simp] theorem liveSample_drive (m : Bool) (t : Time) : (liveSample m t s).drive = s.drive := by
  unfold liveSample; try dsimp only
  all_goals ((repeat' split) <;> simp)
@[simp] theorem liveSample_vref (m : Bool) (t : Time) : (liveSample m t s).vref = s.vref := by
  unfold liveSample; try dsimp only
  all_goals ((repeat' split) <;> simp)
@[simp] theorem liveSample_corr (m : Bool) (t : Time) : (liveSample m t s).corr = s.corr := by
  unfold liveSample; try dsimp only
  all_goals ((repeat' split) <;> simp)
@[simp] theorem liveSample_gains (m : Bool) (t : Time) : (liveSample m t s).gains = s.gains := by
  unfold liveSample; try dsimp only
  all_goals ((repeat' split) <;> simp)
@[simp] theorem liveSample_setup (m : Bool) (t : Time) : (liveSample m t s).setup = s.setup := by
  unfold liveSample; try dsimp only
  all_goals ((repeat' split) <;> simp)
@[simp] theorem liveSample_pins (m : Bool) (t : Time) : (liveSample m t s).pins = s.pins := by
  unfold liveSample; try dsimp only
  all_goals ((repeat' split) <;> simp)
@[simp] theorem liveSample_ledPhase (m : Bool) (t : Time) : (liveSample m t s).ledPhase = s.ledPhase := by
  unfold liveSample; try dsimp only
  all_goals ((repeat' split) <;> simp)
@[simp] theorem liveSample_choices (m : Bool) (t : Time) : (liveSample m t s).choices = s.choices := by
  unfold liveSample; try dsimp only
  all_goals ((repeat' split) <;> simp)
@[simp] theorem liveSample_pending (m : Bool) (t : Time) : (liveSample m t s).pending = s.pending := by
  unfold liveSample; try dsimp only
  all_goals ((repeat' split) <;> simp)

/-! #### consoleSample -/

@[simp] theorem consoleSample_uptime (m : Bool) (t : Time) : (consoleSample m t s).uptime = s.uptime := by
  unfold consoleSample; try dsimp only
  all_goals ((repeat' split) <;> simp)
@[simp] theorem consoleSample_ident (m : Bool) (t : Time) : (consoleSample m t s).ident = s.ident := by
  unfold consoleSample; try dsimp only
  all_goals ((repeat' split) <;> simp)
@[simp] theorem consoleSample_node (m : Bool) (t : Time) : (consoleSample m t s).node = s.node := by
  unfold consoleSample; try dsimp only
  all_goals ((repeat' split) <;> simp)
@[simp] theorem consoleSample_check (m : Bool) (t : Time) : (consoleSample m t s).check = s.check := by
  unfold consoleSample; try dsimp only
  all_goals ((repeat' split) <;> simp)
@[simp] theorem consoleSample_sensor (m : Bool) (t : Time) : (consoleSample m t s).sensor = s.sensor := by
  unfold consoleSample; try dsimp only
  all_goals ((repeat' split) <;> simp)
@[simp] theorem consoleSample_drive (m : Bool) (t : Time) : (consoleSample m t s).drive = s.drive := by
  unfold consoleSample; try dsimp only
  all_goals ((repeat' split) <;> simp)
@[simp] theorem consoleSample_vref (m : Bool) (t : Time) : (consoleSample m t s).vref = s.vref := by
  unfold consoleSample; try dsimp only
  all_goals ((repeat' split) <;> simp)
@[simp] theorem consoleSample_corr (m : Bool) (t : Time) : (consoleSample m t s).corr = s.corr := by
  unfold consoleSample; try dsimp only
  all_goals ((repeat' split) <;> simp)
@[simp] theorem consoleSample_gains (m : Bool) (t : Time) : (consoleSample m t s).gains = s.gains := by
  unfold consoleSample; try dsimp only
  all_goals ((repeat' split) <;> simp)
@[simp] theorem consoleSample_setup (m : Bool) (t : Time) : (consoleSample m t s).setup = s.setup := by
  unfold consoleSample; try dsimp only
  all_goals ((repeat' split) <;> simp)
@[simp] theorem consoleSample_pins (m : Bool) (t : Time) : (consoleSample m t s).pins = s.pins := by
  unfold consoleSample; try dsimp only
  all_goals ((repeat' split) <;> simp)
@[simp] theorem consoleSample_ledPhase (m : Bool) (t : Time) : (consoleSample m t s).ledPhase = s.ledPhase := by
  unfold consoleSample; try dsimp only
  all_goals ((repeat' split) <;> simp)
@[simp] theorem consoleSample_choices (m : Bool) (t : Time) : (consoleSample m t s).choices = s.choices := by
  unfold consoleSample; try dsimp only
  all_goals ((repeat' split) <;> simp)
@[simp] theorem consoleSample_pending (m : Bool) (t : Time) : (consoleSample m t s).pending = s.pending := by
  unfold consoleSample; try dsimp only
  all_goals ((repeat' split) <;> simp)

/-! #### expiryWork -/

@[simp] theorem expiryWork_uptime (m : Bool) (t : Time) : (expiryWork m t s).uptime = s.uptime := by
  unfold expiryWork; try dsimp only
  all_goals ((repeat' split) <;> simp)
@[simp] theorem expiryWork_ident (m : Bool) (t : Time) : (expiryWork m t s).ident = s.ident := by
  unfold expiryWork; try dsimp only
  all_goals ((repeat' split) <;> simp)
@[simp] theorem expiryWork_setup (m : Bool) (t : Time) : (expiryWork m t s).setup = s.setup := by
  unfold expiryWork; try dsimp only
  all_goals ((repeat' split) <;> simp)
@[simp] theorem expiryWork_pins (m : Bool) (t : Time) : (expiryWork m t s).pins = s.pins := by
  unfold expiryWork; try dsimp only
  all_goals ((repeat' split) <;> simp)
@[simp] theorem expiryWork_pending (m : Bool) (t : Time) : (expiryWork m t s).pending = s.pending := by
  unfold expiryWork; try dsimp only
  all_goals ((repeat' split) <;> simp)

/-! #### timerExpires -/

@[simp] theorem timerExpires_ident (m : Bool) (t : Time) : (timerExpires m t s).ident = s.ident := by
  unfold timerExpires; try dsimp only
  all_goals ((repeat' split) <;> simp)
@[simp] theorem timerExpires_setup (m : Bool) (t : Time) : (timerExpires m t s).setup = s.setup := by
  unfold timerExpires; try dsimp only
  all_goals ((repeat' split) <;> simp)
@[simp] theorem timerExpires_pins (m : Bool) (t : Time) : (timerExpires m t s).pins = s.pins := by
  unfold timerExpires; try dsimp only
  all_goals ((repeat' split) <;> simp)
@[simp] theorem timerExpires_pending (m : Bool) (t : Time) : (timerExpires m t s).pending = s.pending := by
  unfold timerExpires; try dsimp only
  all_goals ((repeat' split) <;> simp)

/-! #### replyWork -/

@[simp] theorem replyWork_uptime (r : SensorReply) (t : Time) : (replyWork r t s).uptime = s.uptime := by
  unfold replyWork; try dsimp only
  all_goals ((repeat' split) <;> simp)
@[simp] theorem replyWork_ident (r : SensorReply) (t : Time) : (replyWork r t s).ident = s.ident := by
  unfold replyWork; try dsimp only
  all_goals ((repeat' split) <;> simp)
@[simp] theorem replyWork_console (r : SensorReply) (t : Time) : (replyWork r t s).console = s.console := by
  unfold replyWork; try dsimp only
  all_goals ((repeat' split) <;> simp)
@[simp] theorem replyWork_setup (r : SensorReply) (t : Time) : (replyWork r t s).setup = s.setup := by
  unfold replyWork; try dsimp only
  all_goals ((repeat' split) <;> simp)
@[simp] theorem replyWork_pins (r : SensorReply) (t : Time) : (replyWork r t s).pins = s.pins := by
  unfold replyWork; try dsimp only
  all_goals ((repeat' split) <;> simp)
@[simp] theorem replyWork_pending (r : SensorReply) (t : Time) : (replyWork r t s).pending = s.pending := by
  unfold replyWork; try dsimp only
  all_goals ((repeat' split) <;> simp)

/-! #### replyArrives -/

@[simp] theorem replyArrives_ident (r : SensorReply) (t : Time) : (replyArrives r t s).ident = s.ident := by
  unfold replyArrives; try dsimp only
  all_goals ((repeat' split) <;> simp)
@[simp] theorem replyArrives_console (r : SensorReply) (t : Time) : (replyArrives r t s).console = s.console := by
  unfold replyArrives; try dsimp only
  all_goals ((repeat' split) <;> simp)
@[simp] theorem replyArrives_setup (r : SensorReply) (t : Time) : (replyArrives r t s).setup = s.setup := by
  unfold replyArrives; try dsimp only
  all_goals ((repeat' split) <;> simp)
@[simp] theorem replyArrives_pins (r : SensorReply) (t : Time) : (replyArrives r t s).pins = s.pins := by
  unfold replyArrives; try dsimp only
  all_goals ((repeat' split) <;> simp)
@[simp] theorem replyArrives_pending (r : SensorReply) (t : Time) : (replyArrives r t s).pending = s.pending := by
  unfold replyArrives; try dsimp only
  all_goals ((repeat' split) <;> simp)

/-! #### runTrigger -/

@[simp] theorem runTrigger_ident (tr : SampleTrigger) (t : Time) : (runTrigger tr t s).ident = s.ident := by
  unfold runTrigger; try dsimp only
  all_goals ((repeat' split) <;> simp)
@[simp] theorem runTrigger_setup (tr : SampleTrigger) (t : Time) : (runTrigger tr t s).setup = s.setup := by
  unfold runTrigger; try dsimp only
  all_goals ((repeat' split) <;> simp)
@[simp] theorem runTrigger_pins (tr : SampleTrigger) (t : Time) : (runTrigger tr t s).pins = s.pins := by
  unfold runTrigger; try dsimp only
  all_goals ((repeat' split) <;> simp)
@[simp] theorem runTrigger_pending (tr : SampleTrigger) (t : Time) : (runTrigger tr t s).pending = s.pending := by
  unfold runTrigger; try dsimp only
  all_goals ((repeat' split) <;> simp)

end Sys2Proof.Machine
end

