-- ==== Sys2Proof/Laws/Commands.lean ====
section
/-! SUPPORT. The frames of arrivals, commands, setup, queries, the link and the pins. -/

namespace Sys2Proof.Machine

variable (s : State)

/-! #### failCommit -/

@[simp] theorem failCommit_uptime (e : SetupError) : (failCommit e s).uptime = s.uptime := by
  unfold failCommit; try dsimp only
  all_goals ((repeat' split) <;> simp)
@[simp] theorem failCommit_ident (e : SetupError) : (failCommit e s).ident = s.ident := by
  unfold failCommit; try dsimp only
  all_goals ((repeat' split) <;> simp)
@[simp] theorem failCommit_node (e : SetupError) : (failCommit e s).node = s.node := by
  unfold failCommit; try dsimp only
  all_goals ((repeat' split) <;> simp)
@[simp] theorem failCommit_check (e : SetupError) : (failCommit e s).check = s.check := by
  unfold failCommit; try dsimp only
  all_goals ((repeat' split) <;> simp)
@[simp] theorem failCommit_link (e : SetupError) : (failCommit e s).link = s.link := by
  unfold failCommit; try dsimp only
  all_goals ((repeat' split) <;> simp)
@[simp] theorem failCommit_peers (e : SetupError) : (failCommit e s).peers = s.peers := by
  unfold failCommit; try dsimp only
  all_goals ((repeat' split) <;> simp)
@[simp] theorem failCommit_sensor (e : SetupError) : (failCommit e s).sensor = s.sensor := by
  unfold failCommit; try dsimp only
  all_goals ((repeat' split) <;> simp)
@[simp] theorem failCommit_drive (e : SetupError) : (failCommit e s).drive = s.drive := by
  unfold failCommit; try dsimp only
  all_goals ((repeat' split) <;> simp)
@[simp] theorem failCommit_vref (e : SetupError) : (failCommit e s).vref = s.vref := by
  unfold failCommit; try dsimp only
  all_goals ((repeat' split) <;> simp)
@[simp] theorem failCommit_corr (e : SetupError) : (failCommit e s).corr = s.corr := by
  unfold failCommit; try dsimp only
  all_goals ((repeat' split) <;> simp)
@[simp] theorem failCommit_gains (e : SetupError) : (failCommit e s).gains = s.gains := by
  unfold failCommit; try dsimp only
  all_goals ((repeat' split) <;> simp)
@[simp] theorem failCommit_console (e : SetupError) : (failCommit e s).console = s.console := by
  unfold failCommit; try dsimp only
  all_goals ((repeat' split) <;> simp)
@[simp] theorem failCommit_pins (e : SetupError) : (failCommit e s).pins = s.pins := by
  unfold failCommit; try dsimp only
  all_goals ((repeat' split) <;> simp)
@[simp] theorem failCommit_ledPhase (e : SetupError) : (failCommit e s).ledPhase = s.ledPhase := by
  unfold failCommit; try dsimp only
  all_goals ((repeat' split) <;> simp)
@[simp] theorem failCommit_choices (e : SetupError) : (failCommit e s).choices = s.choices := by
  unfold failCommit; try dsimp only
  all_goals ((repeat' split) <;> simp)
@[simp] theorem failCommit_pending (e : SetupError) : (failCommit e s).pending = s.pending := by
  unfold failCommit; try dsimp only
  all_goals ((repeat' split) <;> simp)

/-! #### passCommit -/

@[simp] theorem passCommit_uptime : (passCommit s).uptime = s.uptime := by
  unfold passCommit; try dsimp only
  all_goals ((repeat' split) <;> simp)
@[simp] theorem passCommit_ident : (passCommit s).ident = s.ident := by
  unfold passCommit; try dsimp only
  all_goals ((repeat' split) <;> simp)
@[simp] theorem passCommit_check : (passCommit s).check = s.check := by
  unfold passCommit; try dsimp only
  all_goals ((repeat' split) <;> simp)
@[simp] theorem passCommit_link : (passCommit s).link = s.link := by
  unfold passCommit; try dsimp only
  all_goals ((repeat' split) <;> simp)
@[simp] theorem passCommit_peers : (passCommit s).peers = s.peers := by
  unfold passCommit; try dsimp only
  all_goals ((repeat' split) <;> simp)
@[simp] theorem passCommit_pins : (passCommit s).pins = s.pins := by
  unfold passCommit; try dsimp only
  all_goals ((repeat' split) <;> simp)
@[simp] theorem passCommit_choices : (passCommit s).choices = s.choices := by
  unfold passCommit; try dsimp only
  all_goals ((repeat' split) <;> simp)
@[simp] theorem passCommit_pending : (passCommit s).pending = s.pending := by
  unfold passCommit; try dsimp only
  all_goals ((repeat' split) <;> simp)

/-! #### commitSetup -/

@[simp] theorem commitSetup_uptime : (commitSetup s).uptime = s.uptime := by
  unfold commitSetup; try dsimp only
  all_goals ((repeat' split) <;> simp)
@[simp] theorem commitSetup_ident : (commitSetup s).ident = s.ident := by
  unfold commitSetup; try dsimp only
  all_goals ((repeat' split) <;> simp)
@[simp] theorem commitSetup_check : (commitSetup s).check = s.check := by
  unfold commitSetup; try dsimp only
  all_goals ((repeat' split) <;> simp)
@[simp] theorem commitSetup_link : (commitSetup s).link = s.link := by
  unfold commitSetup; try dsimp only
  all_goals ((repeat' split) <;> simp)
@[simp] theorem commitSetup_peers : (commitSetup s).peers = s.peers := by
  unfold commitSetup; try dsimp only
  all_goals ((repeat' split) <;> simp)
@[simp] theorem commitSetup_pins : (commitSetup s).pins = s.pins := by
  unfold commitSetup; try dsimp only
  all_goals ((repeat' split) <;> simp)
@[simp] theorem commitSetup_choices : (commitSetup s).choices = s.choices := by
  unfold commitSetup; try dsimp only
  all_goals ((repeat' split) <;> simp)
@[simp] theorem commitSetup_pending : (commitSetup s).pending = s.pending := by
  unfold commitSetup; try dsimp only
  all_goals ((repeat' split) <;> simp)

/-! #### refuseSetup -/

@[simp] theorem refuseSetup_uptime (e : SetupError) : (refuseSetup e s).uptime = s.uptime := by
  unfold refuseSetup; try dsimp only
  all_goals ((repeat' split) <;> simp)
@[simp] theorem refuseSetup_ident (e : SetupError) : (refuseSetup e s).ident = s.ident := by
  unfold refuseSetup; try dsimp only
  all_goals ((repeat' split) <;> simp)
@[simp] theorem refuseSetup_node (e : SetupError) : (refuseSetup e s).node = s.node := by
  unfold refuseSetup; try dsimp only
  all_goals ((repeat' split) <;> simp)
@[simp] theorem refuseSetup_check (e : SetupError) : (refuseSetup e s).check = s.check := by
  unfold refuseSetup; try dsimp only
  all_goals ((repeat' split) <;> simp)
@[simp] theorem refuseSetup_link (e : SetupError) : (refuseSetup e s).link = s.link := by
  unfold refuseSetup; try dsimp only
  all_goals ((repeat' split) <;> simp)
@[simp] theorem refuseSetup_peers (e : SetupError) : (refuseSetup e s).peers = s.peers := by
  unfold refuseSetup; try dsimp only
  all_goals ((repeat' split) <;> simp)
@[simp] theorem refuseSetup_sensor (e : SetupError) : (refuseSetup e s).sensor = s.sensor := by
  unfold refuseSetup; try dsimp only
  all_goals ((repeat' split) <;> simp)
@[simp] theorem refuseSetup_drive (e : SetupError) : (refuseSetup e s).drive = s.drive := by
  unfold refuseSetup; try dsimp only
  all_goals ((repeat' split) <;> simp)
@[simp] theorem refuseSetup_vref (e : SetupError) : (refuseSetup e s).vref = s.vref := by
  unfold refuseSetup; try dsimp only
  all_goals ((repeat' split) <;> simp)
@[simp] theorem refuseSetup_corr (e : SetupError) : (refuseSetup e s).corr = s.corr := by
  unfold refuseSetup; try dsimp only
  all_goals ((repeat' split) <;> simp)
@[simp] theorem refuseSetup_gains (e : SetupError) : (refuseSetup e s).gains = s.gains := by
  unfold refuseSetup; try dsimp only
  all_goals ((repeat' split) <;> simp)
@[simp] theorem refuseSetup_console (e : SetupError) : (refuseSetup e s).console = s.console := by
  unfold refuseSetup; try dsimp only
  all_goals ((repeat' split) <;> simp)
@[simp] theorem refuseSetup_pins (e : SetupError) : (refuseSetup e s).pins = s.pins := by
  unfold refuseSetup; try dsimp only
  all_goals ((repeat' split) <;> simp)
@[simp] theorem refuseSetup_ledPhase (e : SetupError) : (refuseSetup e s).ledPhase = s.ledPhase := by
  unfold refuseSetup; try dsimp only
  all_goals ((repeat' split) <;> simp)
@[simp] theorem refuseSetup_choices (e : SetupError) : (refuseSetup e s).choices = s.choices := by
  unfold refuseSetup; try dsimp only
  all_goals ((repeat' split) <;> simp)
@[simp] theorem refuseSetup_pending (e : SetupError) : (refuseSetup e s).pending = s.pending := by
  unfold refuseSetup; try dsimp only
  all_goals ((repeat' split) <;> simp)

/-! #### countIgnored -/

@[simp] theorem countIgnored_uptime : (countIgnored s).uptime = s.uptime := by
  unfold countIgnored; try dsimp only
  all_goals ((repeat' split) <;> simp)
@[simp] theorem countIgnored_ident : (countIgnored s).ident = s.ident := by
  unfold countIgnored; try dsimp only
  all_goals ((repeat' split) <;> simp)
@[simp] theorem countIgnored_check : (countIgnored s).check = s.check := by
  unfold countIgnored; try dsimp only
  all_goals ((repeat' split) <;> simp)
@[simp] theorem countIgnored_link : (countIgnored s).link = s.link := by
  unfold countIgnored; try dsimp only
  all_goals ((repeat' split) <;> simp)
@[simp] theorem countIgnored_peers : (countIgnored s).peers = s.peers := by
  unfold countIgnored; try dsimp only
  all_goals ((repeat' split) <;> simp)
@[simp] theorem countIgnored_sensor : (countIgnored s).sensor = s.sensor := by
  unfold countIgnored; try dsimp only
  all_goals ((repeat' split) <;> simp)
@[simp] theorem countIgnored_drive : (countIgnored s).drive = s.drive := by
  unfold countIgnored; try dsimp only
  all_goals ((repeat' split) <;> simp)
@[simp] theorem countIgnored_vref : (countIgnored s).vref = s.vref := by
  unfold countIgnored; try dsimp only
  all_goals ((repeat' split) <;> simp)
@[simp] theorem countIgnored_corr : (countIgnored s).corr = s.corr := by
  unfold countIgnored; try dsimp only
  all_goals ((repeat' split) <;> simp)
@[simp] theorem countIgnored_gains : (countIgnored s).gains = s.gains := by
  unfold countIgnored; try dsimp only
  all_goals ((repeat' split) <;> simp)
@[simp] theorem countIgnored_console : (countIgnored s).console = s.console := by
  unfold countIgnored; try dsimp only
  all_goals ((repeat' split) <;> simp)
@[simp] theorem countIgnored_setup : (countIgnored s).setup = s.setup := by
  unfold countIgnored; try dsimp only
  all_goals ((repeat' split) <;> simp)
@[simp] theorem countIgnored_pins : (countIgnored s).pins = s.pins := by
  unfold countIgnored; try dsimp only
  all_goals ((repeat' split) <;> simp)
@[simp] theorem countIgnored_ledPhase : (countIgnored s).ledPhase = s.ledPhase := by
  unfold countIgnored; try dsimp only
  all_goals ((repeat' split) <;> simp)
@[simp] theorem countIgnored_choices : (countIgnored s).choices = s.choices := by
  unfold countIgnored; try dsimp only
  all_goals ((repeat' split) <;> simp)
@[simp] theorem countIgnored_pending : (countIgnored s).pending = s.pending := by
  unfold countIgnored; try dsimp only
  all_goals ((repeat' split) <;> simp)

/-! #### countAuthFailure -/

@[simp] theorem countAuthFailure_uptime : (countAuthFailure s).uptime = s.uptime := by
  unfold countAuthFailure; try dsimp only
  all_goals ((repeat' split) <;> simp)
@[simp] theorem countAuthFailure_ident : (countAuthFailure s).ident = s.ident := by
  unfold countAuthFailure; try dsimp only
  all_goals ((repeat' split) <;> simp)
@[simp] theorem countAuthFailure_node : (countAuthFailure s).node = s.node := by
  unfold countAuthFailure; try dsimp only
  all_goals ((repeat' split) <;> simp)
@[simp] theorem countAuthFailure_check : (countAuthFailure s).check = s.check := by
  unfold countAuthFailure; try dsimp only
  all_goals ((repeat' split) <;> simp)
@[simp] theorem countAuthFailure_link : (countAuthFailure s).link = s.link := by
  unfold countAuthFailure; try dsimp only
  all_goals ((repeat' split) <;> simp)
@[simp] theorem countAuthFailure_peers : (countAuthFailure s).peers = s.peers := by
  unfold countAuthFailure; try dsimp only
  all_goals ((repeat' split) <;> simp)
@[simp] theorem countAuthFailure_sensor : (countAuthFailure s).sensor = s.sensor := by
  unfold countAuthFailure; try dsimp only
  all_goals ((repeat' split) <;> simp)
@[simp] theorem countAuthFailure_drive : (countAuthFailure s).drive = s.drive := by
  unfold countAuthFailure; try dsimp only
  all_goals ((repeat' split) <;> simp)
@[simp] theorem countAuthFailure_vref : (countAuthFailure s).vref = s.vref := by
  unfold countAuthFailure; try dsimp only
  all_goals ((repeat' split) <;> simp)
@[simp] theorem countAuthFailure_corr : (countAuthFailure s).corr = s.corr := by
  unfold countAuthFailure; try dsimp only
  all_goals ((repeat' split) <;> simp)
@[simp] theorem countAuthFailure_gains : (countAuthFailure s).gains = s.gains := by
  unfold countAuthFailure; try dsimp only
  all_goals ((repeat' split) <;> simp)
@[simp] theorem countAuthFailure_console : (countAuthFailure s).console = s.console := by
  unfold countAuthFailure; try dsimp only
  all_goals ((repeat' split) <;> simp)
@[simp] theorem countAuthFailure_pins : (countAuthFailure s).pins = s.pins := by
  unfold countAuthFailure; try dsimp only
  all_goals ((repeat' split) <;> simp)
@[simp] theorem countAuthFailure_ledPhase : (countAuthFailure s).ledPhase = s.ledPhase := by
  unfold countAuthFailure; try dsimp only
  all_goals ((repeat' split) <;> simp)
@[simp] theorem countAuthFailure_choices : (countAuthFailure s).choices = s.choices := by
  unfold countAuthFailure; try dsimp only
  all_goals ((repeat' split) <;> simp)
@[simp] theorem countAuthFailure_pending : (countAuthFailure s).pending = s.pending := by
  unfold countAuthFailure; try dsimp only
  all_goals ((repeat' split) <;> simp)

/-! #### judgeItem -/

@[simp] theorem judgeItem_uptime (p : SetupPayload) : (judgeItem p s).uptime = s.uptime := by
  unfold judgeItem; try dsimp only
  all_goals ((repeat' split) <;> simp)
@[simp] theorem judgeItem_ident (p : SetupPayload) : (judgeItem p s).ident = s.ident := by
  unfold judgeItem; try dsimp only
  all_goals ((repeat' split) <;> simp)
@[simp] theorem judgeItem_check (p : SetupPayload) : (judgeItem p s).check = s.check := by
  unfold judgeItem; try dsimp only
  all_goals ((repeat' split) <;> simp)
@[simp] theorem judgeItem_link (p : SetupPayload) : (judgeItem p s).link = s.link := by
  unfold judgeItem; try dsimp only
  all_goals ((repeat' split) <;> simp)
@[simp] theorem judgeItem_peers (p : SetupPayload) : (judgeItem p s).peers = s.peers := by
  unfold judgeItem; try dsimp only
  all_goals ((repeat' split) <;> simp)
@[simp] theorem judgeItem_pins (p : SetupPayload) : (judgeItem p s).pins = s.pins := by
  unfold judgeItem; try dsimp only
  all_goals ((repeat' split) <;> simp)
@[simp] theorem judgeItem_choices (p : SetupPayload) : (judgeItem p s).choices = s.choices := by
  unfold judgeItem; try dsimp only
  all_goals ((repeat' split) <;> simp)
@[simp] theorem judgeItem_pending (p : SetupPayload) : (judgeItem p s).pending = s.pending := by
  unfold judgeItem; try dsimp only
  all_goals ((repeat' split) <;> simp)

/-! #### takeSetup -/

@[simp] theorem takeSetup_uptime (p : SetupPayload) : (takeSetup p s).uptime = s.uptime := by
  unfold takeSetup; try dsimp only
  all_goals ((repeat' split) <;> simp)
@[simp] theorem takeSetup_ident (p : SetupPayload) : (takeSetup p s).ident = s.ident := by
  unfold takeSetup; try dsimp only
  all_goals ((repeat' split) <;> simp)
@[simp] theorem takeSetup_check (p : SetupPayload) : (takeSetup p s).check = s.check := by
  unfold takeSetup; try dsimp only
  all_goals ((repeat' split) <;> simp)
@[simp] theorem takeSetup_link (p : SetupPayload) : (takeSetup p s).link = s.link := by
  unfold takeSetup; try dsimp only
  all_goals ((repeat' split) <;> simp)
@[simp] theorem takeSetup_peers (p : SetupPayload) : (takeSetup p s).peers = s.peers := by
  unfold takeSetup; try dsimp only
  all_goals ((repeat' split) <;> simp)
@[simp] theorem takeSetup_pins (p : SetupPayload) : (takeSetup p s).pins = s.pins := by
  unfold takeSetup; try dsimp only
  all_goals ((repeat' split) <;> simp)
@[simp] theorem takeSetup_choices (p : SetupPayload) : (takeSetup p s).choices = s.choices := by
  unfold takeSetup; try dsimp only
  all_goals ((repeat' split) <;> simp)
@[simp] theorem takeSetup_pending (p : SetupPayload) : (takeSetup p s).pending = s.pending := by
  unfold takeSetup; try dsimp only
  all_goals ((repeat' split) <;> simp)

/-! #### takeQuery -/

@[simp] theorem takeQuery_uptime (q : QueryPayload) (now : Time) : (takeQuery q now s).uptime = s.uptime := by
  unfold takeQuery; try dsimp only
  all_goals ((repeat' split) <;> simp)
@[simp] theorem takeQuery_ident (q : QueryPayload) (now : Time) : (takeQuery q now s).ident = s.ident := by
  unfold takeQuery; try dsimp only
  all_goals ((repeat' split) <;> simp)
@[simp] theorem takeQuery_node (q : QueryPayload) (now : Time) : (takeQuery q now s).node = s.node := by
  unfold takeQuery; try dsimp only
  all_goals ((repeat' split) <;> simp)
@[simp] theorem takeQuery_check (q : QueryPayload) (now : Time) : (takeQuery q now s).check = s.check := by
  unfold takeQuery; try dsimp only
  all_goals ((repeat' split) <;> simp)
@[simp] theorem takeQuery_peers (q : QueryPayload) (now : Time) : (takeQuery q now s).peers = s.peers := by
  unfold takeQuery; try dsimp only
  all_goals ((repeat' split) <;> simp)
@[simp] theorem takeQuery_sensor (q : QueryPayload) (now : Time) : (takeQuery q now s).sensor = s.sensor := by
  unfold takeQuery; try dsimp only
  all_goals ((repeat' split) <;> simp)
@[simp] theorem takeQuery_drive (q : QueryPayload) (now : Time) : (takeQuery q now s).drive = s.drive := by
  unfold takeQuery; try dsimp only
  all_goals ((repeat' split) <;> simp)
@[simp] theorem takeQuery_vref (q : QueryPayload) (now : Time) : (takeQuery q now s).vref = s.vref := by
  unfold takeQuery; try dsimp only
  all_goals ((repeat' split) <;> simp)
@[simp] theorem takeQuery_corr (q : QueryPayload) (now : Time) : (takeQuery q now s).corr = s.corr := by
  unfold takeQuery; try dsimp only
  all_goals ((repeat' split) <;> simp)
@[simp] theorem takeQuery_gains (q : QueryPayload) (now : Time) : (takeQuery q now s).gains = s.gains := by
  unfold takeQuery; try dsimp only
  all_goals ((repeat' split) <;> simp)
@[simp] theorem takeQuery_console (q : QueryPayload) (now : Time) : (takeQuery q now s).console = s.console := by
  unfold takeQuery; try dsimp only
  all_goals ((repeat' split) <;> simp)
@[simp] theorem takeQuery_setup (q : QueryPayload) (now : Time) : (takeQuery q now s).setup = s.setup := by
  unfold takeQuery; try dsimp only
  all_goals ((repeat' split) <;> simp)
@[simp] theorem takeQuery_pins (q : QueryPayload) (now : Time) : (takeQuery q now s).pins = s.pins := by
  unfold takeQuery; try dsimp only
  all_goals ((repeat' split) <;> simp)
@[simp] theorem takeQuery_ledPhase (q : QueryPayload) (now : Time) : (takeQuery q now s).ledPhase = s.ledPhase := by
  unfold takeQuery; try dsimp only
  all_goals ((repeat' split) <;> simp)
@[simp] theorem takeQuery_choices (q : QueryPayload) (now : Time) : (takeQuery q now s).choices = s.choices := by
  unfold takeQuery; try dsimp only
  all_goals ((repeat' split) <;> simp)
@[simp] theorem takeQuery_pending (q : QueryPayload) (now : Time) : (takeQuery q now s).pending = s.pending := by
  unfold takeQuery; try dsimp only
  all_goals ((repeat' split) <;> simp)

/-! #### takeHome -/

@[simp] theorem takeHome_uptime : (takeHome s).uptime = s.uptime := by
  unfold takeHome; try dsimp only
  all_goals ((repeat' split) <;> simp)
@[simp] theorem takeHome_ident : (takeHome s).ident = s.ident := by
  unfold takeHome; try dsimp only
  all_goals ((repeat' split) <;> simp)
@[simp] theorem takeHome_check : (takeHome s).check = s.check := by
  unfold takeHome; try dsimp only
  all_goals ((repeat' split) <;> simp)
@[simp] theorem takeHome_link : (takeHome s).link = s.link := by
  unfold takeHome; try dsimp only
  all_goals ((repeat' split) <;> simp)
@[simp] theorem takeHome_peers : (takeHome s).peers = s.peers := by
  unfold takeHome; try dsimp only
  all_goals ((repeat' split) <;> simp)
@[simp] theorem takeHome_vref : (takeHome s).vref = s.vref := by
  unfold takeHome; try dsimp only
  all_goals ((repeat' split) <;> simp)
@[simp] theorem takeHome_console : (takeHome s).console = s.console := by
  unfold takeHome; try dsimp only
  all_goals ((repeat' split) <;> simp)
@[simp] theorem takeHome_setup : (takeHome s).setup = s.setup := by
  unfold takeHome; try dsimp only
  all_goals ((repeat' split) <;> simp)
@[simp] theorem takeHome_pins : (takeHome s).pins = s.pins := by
  unfold takeHome; try dsimp only
  all_goals ((repeat' split) <;> simp)
@[simp] theorem takeHome_choices : (takeHome s).choices = s.choices := by
  unfold takeHome; try dsimp only
  all_goals ((repeat' split) <;> simp)
@[simp] theorem takeHome_pending : (takeHome s).pending = s.pending := by
  unfold takeHome; try dsimp only
  all_goals ((repeat' split) <;> simp)

/-! #### setLatch -/

@[simp] theorem setLatch_uptime (x : Bool) : (setLatch x s).uptime = s.uptime := by
  unfold setLatch; try dsimp only
  all_goals ((repeat' split) <;> simp)
@[simp] theorem setLatch_ident (x : Bool) : (setLatch x s).ident = s.ident := by
  unfold setLatch; try dsimp only
  all_goals ((repeat' split) <;> simp)
@[simp] theorem setLatch_check (x : Bool) : (setLatch x s).check = s.check := by
  unfold setLatch; try dsimp only
  all_goals ((repeat' split) <;> simp)
@[simp] theorem setLatch_link (x : Bool) : (setLatch x s).link = s.link := by
  unfold setLatch; try dsimp only
  all_goals ((repeat' split) <;> simp)
@[simp] theorem setLatch_peers (x : Bool) : (setLatch x s).peers = s.peers := by
  unfold setLatch; try dsimp only
  all_goals ((repeat' split) <;> simp)
@[simp] theorem setLatch_sensor (x : Bool) : (setLatch x s).sensor = s.sensor := by
  unfold setLatch; try dsimp only
  all_goals ((repeat' split) <;> simp)
@[simp] theorem setLatch_drive (x : Bool) : (setLatch x s).drive = s.drive := by
  unfold setLatch; try dsimp only
  all_goals ((repeat' split) <;> simp)
@[simp] theorem setLatch_vref (x : Bool) : (setLatch x s).vref = s.vref := by
  unfold setLatch; try dsimp only
  all_goals ((repeat' split) <;> simp)
@[simp] theorem setLatch_corr (x : Bool) : (setLatch x s).corr = s.corr := by
  unfold setLatch; try dsimp only
  all_goals ((repeat' split) <;> simp)
@[simp] theorem setLatch_gains (x : Bool) : (setLatch x s).gains = s.gains := by
  unfold setLatch; try dsimp only
  all_goals ((repeat' split) <;> simp)
@[simp] theorem setLatch_console (x : Bool) : (setLatch x s).console = s.console := by
  unfold setLatch; try dsimp only
  all_goals ((repeat' split) <;> simp)
@[simp] theorem setLatch_setup (x : Bool) : (setLatch x s).setup = s.setup := by
  unfold setLatch; try dsimp only
  all_goals ((repeat' split) <;> simp)
@[simp] theorem setLatch_pins (x : Bool) : (setLatch x s).pins = s.pins := by
  unfold setLatch; try dsimp only
  all_goals ((repeat' split) <;> simp)
@[simp] theorem setLatch_ledPhase (x : Bool) : (setLatch x s).ledPhase = s.ledPhase := by
  unfold setLatch; try dsimp only
  all_goals ((repeat' split) <;> simp)
@[simp] theorem setLatch_choices (x : Bool) : (setLatch x s).choices = s.choices := by
  unfold setLatch; try dsimp only
  all_goals ((repeat' split) <;> simp)
@[simp] theorem setLatch_pending (x : Bool) : (setLatch x s).pending = s.pending := by
  unfold setLatch; try dsimp only
  all_goals ((repeat' split) <;> simp)

/-! #### takeEngage -/

@[simp] theorem takeEngage_uptime : (takeEngage s).uptime = s.uptime := by
  unfold takeEngage; try dsimp only
  all_goals ((repeat' split) <;> simp)
@[simp] theorem takeEngage_ident : (takeEngage s).ident = s.ident := by
  unfold takeEngage; try dsimp only
  all_goals ((repeat' split) <;> simp)
@[simp] theorem takeEngage_check : (takeEngage s).check = s.check := by
  unfold takeEngage; try dsimp only
  all_goals ((repeat' split) <;> simp)
@[simp] theorem takeEngage_link : (takeEngage s).link = s.link := by
  unfold takeEngage; try dsimp only
  all_goals ((repeat' split) <;> simp)
@[simp] theorem takeEngage_peers : (takeEngage s).peers = s.peers := by
  unfold takeEngage; try dsimp only
  all_goals ((repeat' split) <;> simp)
@[simp] theorem takeEngage_vref : (takeEngage s).vref = s.vref := by
  unfold takeEngage; try dsimp only
  all_goals ((repeat' split) <;> simp)
@[simp] theorem takeEngage_console : (takeEngage s).console = s.console := by
  unfold takeEngage; try dsimp only
  all_goals ((repeat' split) <;> simp)
@[simp] theorem takeEngage_setup : (takeEngage s).setup = s.setup := by
  unfold takeEngage; try dsimp only
  all_goals ((repeat' split) <;> simp)
@[simp] theorem takeEngage_pins : (takeEngage s).pins = s.pins := by
  unfold takeEngage; try dsimp only
  all_goals ((repeat' split) <;> simp)
@[simp] theorem takeEngage_choices : (takeEngage s).choices = s.choices := by
  unfold takeEngage; try dsimp only
  all_goals ((repeat' split) <;> simp)
@[simp] theorem takeEngage_pending : (takeEngage s).pending = s.pending := by
  unfold takeEngage; try dsimp only
  all_goals ((repeat' split) <;> simp)

/-! #### takePark -/

@[simp] theorem takePark_uptime : (takePark s).uptime = s.uptime := by
  unfold takePark; try dsimp only
  all_goals ((repeat' split) <;> simp)
@[simp] theorem takePark_ident : (takePark s).ident = s.ident := by
  unfold takePark; try dsimp only
  all_goals ((repeat' split) <;> simp)
@[simp] theorem takePark_check : (takePark s).check = s.check := by
  unfold takePark; try dsimp only
  all_goals ((repeat' split) <;> simp)
@[simp] theorem takePark_link : (takePark s).link = s.link := by
  unfold takePark; try dsimp only
  all_goals ((repeat' split) <;> simp)
@[simp] theorem takePark_peers : (takePark s).peers = s.peers := by
  unfold takePark; try dsimp only
  all_goals ((repeat' split) <;> simp)
@[simp] theorem takePark_vref : (takePark s).vref = s.vref := by
  unfold takePark; try dsimp only
  all_goals ((repeat' split) <;> simp)
@[simp] theorem takePark_console : (takePark s).console = s.console := by
  unfold takePark; try dsimp only
  all_goals ((repeat' split) <;> simp)
@[simp] theorem takePark_setup : (takePark s).setup = s.setup := by
  unfold takePark; try dsimp only
  all_goals ((repeat' split) <;> simp)
@[simp] theorem takePark_pins : (takePark s).pins = s.pins := by
  unfold takePark; try dsimp only
  all_goals ((repeat' split) <;> simp)
@[simp] theorem takePark_choices : (takePark s).choices = s.choices := by
  unfold takePark; try dsimp only
  all_goals ((repeat' split) <;> simp)
@[simp] theorem takePark_pending : (takePark s).pending = s.pending := by
  unfold takePark; try dsimp only
  all_goals ((repeat' split) <;> simp)

/-! #### emptyRecord -/

@[simp] theorem emptyRecord_uptime (h : Bool) : (emptyRecord h s).uptime = s.uptime := by
  unfold emptyRecord; try dsimp only
  all_goals ((repeat' split) <;> simp)
@[simp] theorem emptyRecord_ident (h : Bool) : (emptyRecord h s).ident = s.ident := by
  unfold emptyRecord; try dsimp only
  all_goals ((repeat' split) <;> simp)
@[simp] theorem emptyRecord_check (h : Bool) : (emptyRecord h s).check = s.check := by
  unfold emptyRecord; try dsimp only
  all_goals ((repeat' split) <;> simp)
@[simp] theorem emptyRecord_link (h : Bool) : (emptyRecord h s).link = s.link := by
  unfold emptyRecord; try dsimp only
  all_goals ((repeat' split) <;> simp)
@[simp] theorem emptyRecord_peers (h : Bool) : (emptyRecord h s).peers = s.peers := by
  unfold emptyRecord; try dsimp only
  all_goals ((repeat' split) <;> simp)
@[simp] theorem emptyRecord_sensor (h : Bool) : (emptyRecord h s).sensor = s.sensor := by
  unfold emptyRecord; try dsimp only
  all_goals ((repeat' split) <;> simp)
@[simp] theorem emptyRecord_drive (h : Bool) : (emptyRecord h s).drive = s.drive := by
  unfold emptyRecord; try dsimp only
  all_goals ((repeat' split) <;> simp)
@[simp] theorem emptyRecord_vref (h : Bool) : (emptyRecord h s).vref = s.vref := by
  unfold emptyRecord; try dsimp only
  all_goals ((repeat' split) <;> simp)
@[simp] theorem emptyRecord_corr (h : Bool) : (emptyRecord h s).corr = s.corr := by
  unfold emptyRecord; try dsimp only
  all_goals ((repeat' split) <;> simp)
@[simp] theorem emptyRecord_gains (h : Bool) : (emptyRecord h s).gains = s.gains := by
  unfold emptyRecord; try dsimp only
  all_goals ((repeat' split) <;> simp)
@[simp] theorem emptyRecord_console (h : Bool) : (emptyRecord h s).console = s.console := by
  unfold emptyRecord; try dsimp only
  all_goals ((repeat' split) <;> simp)
@[simp] theorem emptyRecord_setup (h : Bool) : (emptyRecord h s).setup = s.setup := by
  unfold emptyRecord; try dsimp only
  all_goals ((repeat' split) <;> simp)
@[simp] theorem emptyRecord_pins (h : Bool) : (emptyRecord h s).pins = s.pins := by
  unfold emptyRecord; try dsimp only
  all_goals ((repeat' split) <;> simp)
@[simp] theorem emptyRecord_ledPhase (h : Bool) : (emptyRecord h s).ledPhase = s.ledPhase := by
  unfold emptyRecord; try dsimp only
  all_goals ((repeat' split) <;> simp)
@[simp] theorem emptyRecord_choices (h : Bool) : (emptyRecord h s).choices = s.choices := by
  unfold emptyRecord; try dsimp only
  all_goals ((repeat' split) <;> simp)
@[simp] theorem emptyRecord_pending (h : Bool) : (emptyRecord h s).pending = s.pending := by
  unfold emptyRecord; try dsimp only
  all_goals ((repeat' split) <;> simp)

/-! #### clearFault -/

@[simp] theorem clearFault_uptime : (clearFault s).uptime = s.uptime := by
  unfold clearFault; try dsimp only
  all_goals ((repeat' split) <;> simp)
@[simp] theorem clearFault_ident : (clearFault s).ident = s.ident := by
  unfold clearFault; try dsimp only
  all_goals ((repeat' split) <;> simp)
@[simp] theorem clearFault_check : (clearFault s).check = s.check := by
  unfold clearFault; try dsimp only
  all_goals ((repeat' split) <;> simp)
@[simp] theorem clearFault_link : (clearFault s).link = s.link := by
  unfold clearFault; try dsimp only
  all_goals ((repeat' split) <;> simp)
@[simp] theorem clearFault_peers : (clearFault s).peers = s.peers := by
  unfold clearFault; try dsimp only
  all_goals ((repeat' split) <;> simp)
@[simp] theorem clearFault_console : (clearFault s).console = s.console := by
  unfold clearFault; try dsimp only
  all_goals ((repeat' split) <;> simp)
@[simp] theorem clearFault_setup : (clearFault s).setup = s.setup := by
  unfold clearFault; try dsimp only
  all_goals ((repeat' split) <;> simp)
@[simp] theorem clearFault_pins : (clearFault s).pins = s.pins := by
  unfold clearFault; try dsimp only
  all_goals ((repeat' split) <;> simp)
@[simp] theorem clearFault_choices : (clearFault s).choices = s.choices := by
  unfold clearFault; try dsimp only
  all_goals ((repeat' split) <;> simp)
@[simp] theorem clearFault_pending : (clearFault s).pending = s.pending := by
  unfold clearFault; try dsimp only
  all_goals ((repeat' split) <;> simp)

/-! #### takeClear -/

@[simp] theorem takeClear_uptime : (takeClear s).uptime = s.uptime := by
  unfold takeClear; try dsimp only
  all_goals ((repeat' split) <;> simp)
@[simp] theorem takeClear_ident : (takeClear s).ident = s.ident := by
  unfold takeClear; try dsimp only
  all_goals ((repeat' split) <;> simp)
@[simp] theorem takeClear_check : (takeClear s).check = s.check := by
  unfold takeClear; try dsimp only
  all_goals ((repeat' split) <;> simp)
@[simp] theorem takeClear_link : (takeClear s).link = s.link := by
  unfold takeClear; try dsimp only
  all_goals ((repeat' split) <;> simp)
@[simp] theorem takeClear_peers : (takeClear s).peers = s.peers := by
  unfold takeClear; try dsimp only
  all_goals ((repeat' split) <;> simp)
@[simp] theorem takeClear_console : (takeClear s).console = s.console := by
  unfold takeClear; try dsimp only
  all_goals ((repeat' split) <;> simp)
@[simp] theorem takeClear_setup : (takeClear s).setup = s.setup := by
  unfold takeClear; try dsimp only
  all_goals ((repeat' split) <;> simp)
@[simp] theorem takeClear_pins : (takeClear s).pins = s.pins := by
  unfold takeClear; try dsimp only
  all_goals ((repeat' split) <;> simp)
@[simp] theorem takeClear_choices : (takeClear s).choices = s.choices := by
  unfold takeClear; try dsimp only
  all_goals ((repeat' split) <;> simp)
@[simp] theorem takeClear_pending : (takeClear s).pending = s.pending := by
  unfold takeClear; try dsimp only
  all_goals ((repeat' split) <;> simp)

/-! #### takeClearMarks -/

@[simp] theorem takeClearMarks_uptime : (takeClearMarks s).uptime = s.uptime := by
  unfold takeClearMarks; try dsimp only
  all_goals ((repeat' split) <;> simp)
@[simp] theorem takeClearMarks_ident : (takeClearMarks s).ident = s.ident := by
  unfold takeClearMarks; try dsimp only
  all_goals ((repeat' split) <;> simp)
@[simp] theorem takeClearMarks_check : (takeClearMarks s).check = s.check := by
  unfold takeClearMarks; try dsimp only
  all_goals ((repeat' split) <;> simp)
@[simp] theorem takeClearMarks_link : (takeClearMarks s).link = s.link := by
  unfold takeClearMarks; try dsimp only
  all_goals ((repeat' split) <;> simp)
@[simp] theorem takeClearMarks_peers : (takeClearMarks s).peers = s.peers := by
  unfold takeClearMarks; try dsimp only
  all_goals ((repeat' split) <;> simp)
@[simp] theorem takeClearMarks_sensor : (takeClearMarks s).sensor = s.sensor := by
  unfold takeClearMarks; try dsimp only
  all_goals ((repeat' split) <;> simp)
@[simp] theorem takeClearMarks_drive : (takeClearMarks s).drive = s.drive := by
  unfold takeClearMarks; try dsimp only
  all_goals ((repeat' split) <;> simp)
@[simp] theorem takeClearMarks_vref : (takeClearMarks s).vref = s.vref := by
  unfold takeClearMarks; try dsimp only
  all_goals ((repeat' split) <;> simp)
@[simp] theorem takeClearMarks_corr : (takeClearMarks s).corr = s.corr := by
  unfold takeClearMarks; try dsimp only
  all_goals ((repeat' split) <;> simp)
@[simp] theorem takeClearMarks_console : (takeClearMarks s).console = s.console := by
  unfold takeClearMarks; try dsimp only
  all_goals ((repeat' split) <;> simp)
@[simp] theorem takeClearMarks_setup : (takeClearMarks s).setup = s.setup := by
  unfold takeClearMarks; try dsimp only
  all_goals ((repeat' split) <;> simp)
@[simp] theorem takeClearMarks_pins : (takeClearMarks s).pins = s.pins := by
  unfold takeClearMarks; try dsimp only
  all_goals ((repeat' split) <;> simp)
@[simp] theorem takeClearMarks_ledPhase : (takeClearMarks s).ledPhase = s.ledPhase := by
  unfold takeClearMarks; try dsimp only
  all_goals ((repeat' split) <;> simp)
@[simp] theorem takeClearMarks_choices : (takeClearMarks s).choices = s.choices := by
  unfold takeClearMarks; try dsimp only
  all_goals ((repeat' split) <;> simp)
@[simp] theorem takeClearMarks_pending : (takeClearMarks s).pending = s.pending := by
  unfold takeClearMarks; try dsimp only
  all_goals ((repeat' split) <;> simp)

/-! #### takeStandby -/

@[simp] theorem takeStandby_uptime (a : Half) : (takeStandby a s).uptime = s.uptime := by
  unfold takeStandby; try dsimp only
  all_goals ((repeat' split) <;> simp)
@[simp] theorem takeStandby_ident (a : Half) : (takeStandby a s).ident = s.ident := by
  unfold takeStandby; try dsimp only
  all_goals ((repeat' split) <;> simp)
@[simp] theorem takeStandby_check (a : Half) : (takeStandby a s).check = s.check := by
  unfold takeStandby; try dsimp only
  all_goals ((repeat' split) <;> simp)
@[simp] theorem takeStandby_peers (a : Half) : (takeStandby a s).peers = s.peers := by
  unfold takeStandby; try dsimp only
  all_goals ((repeat' split) <;> simp)
@[simp] theorem takeStandby_vref (a : Half) : (takeStandby a s).vref = s.vref := by
  unfold takeStandby; try dsimp only
  all_goals ((repeat' split) <;> simp)
@[simp] theorem takeStandby_console (a : Half) : (takeStandby a s).console = s.console := by
  unfold takeStandby; try dsimp only
  all_goals ((repeat' split) <;> simp)
@[simp] theorem takeStandby_pins (a : Half) : (takeStandby a s).pins = s.pins := by
  unfold takeStandby; try dsimp only
  all_goals ((repeat' split) <;> simp)
@[simp] theorem takeStandby_choices (a : Half) : (takeStandby a s).choices = s.choices := by
  unfold takeStandby; try dsimp only
  all_goals ((repeat' split) <;> simp)
@[simp] theorem takeStandby_pending (a : Half) : (takeStandby a s).pending = s.pending := by
  unfold takeStandby; try dsimp only
  all_goals ((repeat' split) <;> simp)

/-! #### takeCommand -/

@[simp] theorem takeCommand_uptime (op : BitVec 4) (a : Half) : (takeCommand op a s).uptime = s.uptime := by
  unfold takeCommand; try dsimp only
  all_goals ((repeat' split) <;> simp)
@[simp] theorem takeCommand_ident (op : BitVec 4) (a : Half) : (takeCommand op a s).ident = s.ident := by
  unfold takeCommand; try dsimp only
  all_goals ((repeat' split) <;> simp)
@[simp] theorem takeCommand_check (op : BitVec 4) (a : Half) : (takeCommand op a s).check = s.check := by
  unfold takeCommand; try dsimp only
  all_goals ((repeat' split) <;> simp)
@[simp] theorem takeCommand_peers (op : BitVec 4) (a : Half) : (takeCommand op a s).peers = s.peers := by
  unfold takeCommand; try dsimp only
  all_goals ((repeat' split) <;> simp)
@[simp] theorem takeCommand_console (op : BitVec 4) (a : Half) : (takeCommand op a s).console = s.console := by
  unfold takeCommand; try dsimp only
  all_goals ((repeat' split) <;> simp)
@[simp] theorem takeCommand_pins (op : BitVec 4) (a : Half) : (takeCommand op a s).pins = s.pins := by
  unfold takeCommand; try dsimp only
  all_goals ((repeat' split) <;> simp)
@[simp] theorem takeCommand_choices (op : BitVec 4) (a : Half) : (takeCommand op a s).choices = s.choices := by
  unfold takeCommand; try dsimp only
  all_goals ((repeat' split) <;> simp)
@[simp] theorem takeCommand_pending (op : BitVec 4) (a : Half) : (takeCommand op a s).pending = s.pending := by
  unfold takeCommand; try dsimp only
  all_goals ((repeat' split) <;> simp)

/-! #### takeReport -/

@[simp] theorem takeReport_uptime (a : Fin 7) (p : ReportPayload) (c n : Time) : (takeReport a p c n s).uptime = s.uptime := by
  unfold takeReport; try dsimp only
  all_goals ((repeat' split) <;> simp)
@[simp] theorem takeReport_ident (a : Fin 7) (p : ReportPayload) (c n : Time) : (takeReport a p c n s).ident = s.ident := by
  unfold takeReport; try dsimp only
  all_goals ((repeat' split) <;> simp)
@[simp] theorem takeReport_check (a : Fin 7) (p : ReportPayload) (c n : Time) : (takeReport a p c n s).check = s.check := by
  unfold takeReport; try dsimp only
  all_goals ((repeat' split) <;> simp)
@[simp] theorem takeReport_link (a : Fin 7) (p : ReportPayload) (c n : Time) (hc : s.ident.role ≠ .console) :
    (takeReport a p c n s).link = s.link := by
  unfold takeReport; try dsimp only
  all_goals ((repeat' split) <;> simp -implicitDefEqProofs [hc])
@[simp] theorem takeReport_vref (a : Fin 7) (p : ReportPayload) (c n : Time) : (takeReport a p c n s).vref = s.vref := by
  unfold takeReport; try dsimp only
  all_goals ((repeat' split) <;> simp)
@[simp] theorem takeReport_console (a : Fin 7) (p : ReportPayload) (c n : Time) : (takeReport a p c n s).console = s.console := by
  unfold takeReport; try dsimp only
  all_goals ((repeat' split) <;> simp)
@[simp] theorem takeReport_setup (a : Fin 7) (p : ReportPayload) (c n : Time) : (takeReport a p c n s).setup = s.setup := by
  unfold takeReport; try dsimp only
  all_goals ((repeat' split) <;> simp)
@[simp] theorem takeReport_pins (a : Fin 7) (p : ReportPayload) (c n : Time) : (takeReport a p c n s).pins = s.pins := by
  unfold takeReport; try dsimp only
  all_goals ((repeat' split) <;> simp)
@[simp] theorem takeReport_choices (a : Fin 7) (p : ReportPayload) (c n : Time) : (takeReport a p c n s).choices = s.choices := by
  unfold takeReport; try dsimp only
  all_goals ((repeat' split) <;> simp)
@[simp] theorem takeReport_pending (a : Fin 7) (p : ReportPayload) (c n : Time) : (takeReport a p c n s).pending = s.pending := by
  unfold takeReport; try dsimp only
  all_goals ((repeat' split) <;> simp)

/-! #### takeVehicle -/

@[simp] theorem takeVehicle_uptime (a : Fin 7) (p : VehiclePayload) (c n : Time) : (takeVehicle a p c n s).uptime = s.uptime := by
  unfold takeVehicle; try dsimp only
  all_goals ((repeat' split) <;> simp)
@[simp] theorem takeVehicle_ident (a : Fin 7) (p : VehiclePayload) (c n : Time) : (takeVehicle a p c n s).ident = s.ident := by
  unfold takeVehicle; try dsimp only
  all_goals ((repeat' split) <;> simp)
@[simp] theorem takeVehicle_node (a : Fin 7) (p : VehiclePayload) (c n : Time) : (takeVehicle a p c n s).node = s.node := by
  unfold takeVehicle; try dsimp only
  all_goals ((repeat' split) <;> simp)
@[simp] theorem takeVehicle_check (a : Fin 7) (p : VehiclePayload) (c n : Time) : (takeVehicle a p c n s).check = s.check := by
  unfold takeVehicle; try dsimp only
  all_goals ((repeat' split) <;> simp)
@[simp] theorem takeVehicle_link (a : Fin 7) (p : VehiclePayload) (c n : Time) : (takeVehicle a p c n s).link = s.link := by
  unfold takeVehicle; try dsimp only
  all_goals ((repeat' split) <;> simp)
@[simp] theorem takeVehicle_drive (a : Fin 7) (p : VehiclePayload) (c n : Time) : (takeVehicle a p c n s).drive = s.drive := by
  unfold takeVehicle; try dsimp only
  all_goals ((repeat' split) <;> simp)
@[simp] theorem takeVehicle_vref (a : Fin 7) (p : VehiclePayload) (c n : Time) : (takeVehicle a p c n s).vref = s.vref := by
  unfold takeVehicle; try dsimp only
  all_goals ((repeat' split) <;> simp)
@[simp] theorem takeVehicle_console (a : Fin 7) (p : VehiclePayload) (c n : Time) : (takeVehicle a p c n s).console = s.console := by
  unfold takeVehicle; try dsimp only
  all_goals ((repeat' split) <;> simp)
@[simp] theorem takeVehicle_setup (a : Fin 7) (p : VehiclePayload) (c n : Time) : (takeVehicle a p c n s).setup = s.setup := by
  unfold takeVehicle; try dsimp only
  all_goals ((repeat' split) <;> simp)
@[simp] theorem takeVehicle_pins (a : Fin 7) (p : VehiclePayload) (c n : Time) : (takeVehicle a p c n s).pins = s.pins := by
  unfold takeVehicle; try dsimp only
  all_goals ((repeat' split) <;> simp)
@[simp] theorem takeVehicle_ledPhase (a : Fin 7) (p : VehiclePayload) (c n : Time) : (takeVehicle a p c n s).ledPhase = s.ledPhase := by
  unfold takeVehicle; try dsimp only
  all_goals ((repeat' split) <;> simp)
@[simp] theorem takeVehicle_choices (a : Fin 7) (p : VehiclePayload) (c n : Time) : (takeVehicle a p c n s).choices = s.choices := by
  unfold takeVehicle; try dsimp only
  all_goals ((repeat' split) <;> simp)
@[simp] theorem takeVehicle_pending (a : Fin 7) (p : VehiclePayload) (c n : Time) : (takeVehicle a p c n s).pending = s.pending := by
  unfold takeVehicle; try dsimp only
  all_goals ((repeat' split) <;> simp)

/-! #### takeAimFrame -/

@[simp] theorem takeAimFrame_uptime (a : Fin 7) (p : AimPayload) (c n : Time) : (takeAimFrame a p c n s).uptime = s.uptime := by
  unfold takeAimFrame; try dsimp only
  all_goals ((repeat' split) <;> simp)
@[simp] theorem takeAimFrame_ident (a : Fin 7) (p : AimPayload) (c n : Time) : (takeAimFrame a p c n s).ident = s.ident := by
  unfold takeAimFrame; try dsimp only
  all_goals ((repeat' split) <;> simp)
@[simp] theorem takeAimFrame_node (a : Fin 7) (p : AimPayload) (c n : Time) : (takeAimFrame a p c n s).node = s.node := by
  unfold takeAimFrame; try dsimp only
  all_goals ((repeat' split) <;> simp)
@[simp] theorem takeAimFrame_check (a : Fin 7) (p : AimPayload) (c n : Time) : (takeAimFrame a p c n s).check = s.check := by
  unfold takeAimFrame; try dsimp only
  all_goals ((repeat' split) <;> simp)
@[simp] theorem takeAimFrame_link (a : Fin 7) (p : AimPayload) (c n : Time) : (takeAimFrame a p c n s).link = s.link := by
  unfold takeAimFrame; try dsimp only
  all_goals ((repeat' split) <;> simp)
@[simp] theorem takeAimFrame_sensor (a : Fin 7) (p : AimPayload) (c n : Time) : (takeAimFrame a p c n s).sensor = s.sensor := by
  unfold takeAimFrame; try dsimp only
  all_goals ((repeat' split) <;> simp)
@[simp] theorem takeAimFrame_drive (a : Fin 7) (p : AimPayload) (c n : Time) : (takeAimFrame a p c n s).drive = s.drive := by
  unfold takeAimFrame; try dsimp only
  all_goals ((repeat' split) <;> simp)
@[simp] theorem takeAimFrame_vref (a : Fin 7) (p : AimPayload) (c n : Time) : (takeAimFrame a p c n s).vref = s.vref := by
  unfold takeAimFrame; try dsimp only
  all_goals ((repeat' split) <;> simp)
@[simp] theorem takeAimFrame_corr (a : Fin 7) (p : AimPayload) (c n : Time) : (takeAimFrame a p c n s).corr = s.corr := by
  unfold takeAimFrame; try dsimp only
  all_goals ((repeat' split) <;> simp)
@[simp] theorem takeAimFrame_gains (a : Fin 7) (p : AimPayload) (c n : Time) : (takeAimFrame a p c n s).gains = s.gains := by
  unfold takeAimFrame; try dsimp only
  all_goals ((repeat' split) <;> simp)
@[simp] theorem takeAimFrame_console (a : Fin 7) (p : AimPayload) (c n : Time) : (takeAimFrame a p c n s).console = s.console := by
  unfold takeAimFrame; try dsimp only
  all_goals ((repeat' split) <;> simp)
@[simp] theorem takeAimFrame_setup (a : Fin 7) (p : AimPayload) (c n : Time) : (takeAimFrame a p c n s).setup = s.setup := by
  unfold takeAimFrame; try dsimp only
  all_goals ((repeat' split) <;> simp)
@[simp] theorem takeAimFrame_pins (a : Fin 7) (p : AimPayload) (c n : Time) : (takeAimFrame a p c n s).pins = s.pins := by
  unfold takeAimFrame; try dsimp only
  all_goals ((repeat' split) <;> simp)
@[simp] theorem takeAimFrame_ledPhase (a : Fin 7) (p : AimPayload) (c n : Time) : (takeAimFrame a p c n s).ledPhase = s.ledPhase := by
  unfold takeAimFrame; try dsimp only
  all_goals ((repeat' split) <;> simp)
@[simp] theorem takeAimFrame_choices (a : Fin 7) (p : AimPayload) (c n : Time) : (takeAimFrame a p c n s).choices = s.choices := by
  unfold takeAimFrame; try dsimp only
  all_goals ((repeat' split) <;> simp)
@[simp] theorem takeAimFrame_pending (a : Fin 7) (p : AimPayload) (c n : Time) : (takeAimFrame a p c n s).pending = s.pending := by
  unfold takeAimFrame; try dsimp only
  all_goals ((repeat' split) <;> simp)

/-! #### filterFrame -/

@[simp] theorem filterFrame_uptime (f : Frame) (c n : Time) : (filterFrame f c n s).uptime = s.uptime := by
  unfold filterFrame; try dsimp only
  all_goals ((repeat' split) <;> simp)
@[simp] theorem filterFrame_ident (f : Frame) (c n : Time) : (filterFrame f c n s).ident = s.ident := by
  unfold filterFrame; try dsimp only
  all_goals ((repeat' split) <;> simp)
@[simp] theorem filterFrame_check (f : Frame) (c n : Time) : (filterFrame f c n s).check = s.check := by
  unfold filterFrame; try dsimp only
  all_goals ((repeat' split) <;> simp)
@[simp] theorem filterFrame_pins (f : Frame) (c n : Time) : (filterFrame f c n s).pins = s.pins := by
  unfold filterFrame; try dsimp only
  all_goals ((repeat' split) <;> simp)
@[simp] theorem filterFrame_choices (f : Frame) (c n : Time) : (filterFrame f c n s).choices = s.choices := by
  unfold filterFrame; try dsimp only
  all_goals ((repeat' split) <;> simp)
@[simp] theorem filterFrame_pending (f : Frame) (c n : Time) : (filterFrame f c n s).pending = s.pending := by
  unfold filterFrame; try dsimp only
  all_goals ((repeat' split) <;> simp)

/-! #### passOn -/

@[simp] theorem passOn_uptime (f : Frame) (c n : Time) : (passOn f c n s).uptime = s.uptime := by
  unfold passOn; try dsimp only
  all_goals ((repeat' split) <;> simp)
@[simp] theorem passOn_ident (f : Frame) (c n : Time) : (passOn f c n s).ident = s.ident := by
  unfold passOn; try dsimp only
  all_goals ((repeat' split) <;> simp)
@[simp] theorem passOn_check (f : Frame) (c n : Time) : (passOn f c n s).check = s.check := by
  unfold passOn; try dsimp only
  all_goals ((repeat' split) <;> simp)
@[simp] theorem passOn_pins (f : Frame) (c n : Time) : (passOn f c n s).pins = s.pins := by
  unfold passOn; try dsimp only
  all_goals ((repeat' split) <;> simp)
@[simp] theorem passOn_choices (f : Frame) (c n : Time) : (passOn f c n s).choices = s.choices := by
  unfold passOn; try dsimp only
  all_goals ((repeat' split) <;> simp)
@[simp] theorem passOn_pending (f : Frame) (c n : Time) : (passOn f c n s).pending = s.pending := by
  unfold passOn; try dsimp only
  all_goals ((repeat' split) <;> simp)

/-! #### receive -/

@[simp] theorem receive_ident (f : Frame) (c n : Time) : (receive f c n s).ident = s.ident := by
  unfold receive; try dsimp only
  all_goals ((repeat' split) <;> simp)
@[simp] theorem receive_check (f : Frame) (c n : Time) : (receive f c n s).check = s.check := by
  unfold receive; try dsimp only
  all_goals ((repeat' split) <;> simp)
@[simp] theorem receive_pins (f : Frame) (c n : Time) : (receive f c n s).pins = s.pins := by
  unfold receive; try dsimp only
  all_goals ((repeat' split) <;> simp)
@[simp] theorem receive_choices (f : Frame) (c n : Time) : (receive f c n s).choices = s.choices := by
  unfold receive; try dsimp only
  all_goals ((repeat' split) <;> simp)
@[simp] theorem receive_pending (f : Frame) (c n : Time) : (receive f c n s).pending = s.pending := by
  unfold receive; try dsimp only
  all_goals ((repeat' split) <;> simp)

/-! #### receiveRaw -/

@[simp] theorem receiveRaw_ident (f : RawFrame) (c n : Time) : (receiveRaw f c n s).ident = s.ident := by
  unfold receiveRaw; try dsimp only
  all_goals ((repeat' split) <;> simp)
@[simp] theorem receiveRaw_check (f : RawFrame) (c n : Time) : (receiveRaw f c n s).check = s.check := by
  unfold receiveRaw; try dsimp only
  all_goals ((repeat' split) <;> simp)
@[simp] theorem receiveRaw_pins (f : RawFrame) (c n : Time) : (receiveRaw f c n s).pins = s.pins := by
  unfold receiveRaw; try dsimp only
  all_goals ((repeat' split) <;> simp)
@[simp] theorem receiveRaw_choices (f : RawFrame) (c n : Time) : (receiveRaw f c n s).choices = s.choices := by
  unfold receiveRaw; try dsimp only
  all_goals ((repeat' split) <;> simp)
@[simp] theorem receiveRaw_pending (f : RawFrame) (c n : Time) : (receiveRaw f c n s).pending = s.pending := by
  unfold receiveRaw; try dsimp only
  all_goals ((repeat' split) <;> simp)

/-! #### receiveAt -/

@[simp] theorem receiveAt_ident (f : Frame) (n : Time) : (receiveAt f n s).ident = s.ident := by
  unfold receiveAt; try dsimp only
  all_goals ((repeat' split) <;> simp)
@[simp] theorem receiveAt_check (f : Frame) (n : Time) : (receiveAt f n s).check = s.check := by
  unfold receiveAt; try dsimp only
  all_goals ((repeat' split) <;> simp)
@[simp] theorem receiveAt_pins (f : Frame) (n : Time) : (receiveAt f n s).pins = s.pins := by
  unfold receiveAt; try dsimp only
  all_goals ((repeat' split) <;> simp)
@[simp] theorem receiveAt_choices (f : Frame) (n : Time) : (receiveAt f n s).choices = s.choices := by
  unfold receiveAt; try dsimp only
  all_goals ((repeat' split) <;> simp)
@[simp] theorem receiveAt_pending (f : Frame) (n : Time) : (receiveAt f n s).pending = s.pending := by
  unfold receiveAt; try dsimp only
  all_goals ((repeat' split) <;> simp)

/-! #### lineAtRest -/

@[simp] theorem lineAtRest_uptime : (lineAtRest s).uptime = s.uptime := by
  unfold lineAtRest; try dsimp only
  all_goals ((repeat' split) <;> simp)
@[simp] theorem lineAtRest_ident : (lineAtRest s).ident = s.ident := by
  unfold lineAtRest; try dsimp only
  all_goals ((repeat' split) <;> simp)
@[simp] theorem lineAtRest_node : (lineAtRest s).node = s.node := by
  unfold lineAtRest; try dsimp only
  all_goals ((repeat' split) <;> simp)
@[simp] theorem lineAtRest_check : (lineAtRest s).check = s.check := by
  unfold lineAtRest; try dsimp only
  all_goals ((repeat' split) <;> simp)
@[simp] theorem lineAtRest_peers : (lineAtRest s).peers = s.peers := by
  unfold lineAtRest; try dsimp only
  all_goals ((repeat' split) <;> simp)
@[simp] theorem lineAtRest_sensor : (lineAtRest s).sensor = s.sensor := by
  unfold lineAtRest; try dsimp only
  all_goals ((repeat' split) <;> simp)
@[simp] theorem lineAtRest_drive : (lineAtRest s).drive = s.drive := by
  unfold lineAtRest; try dsimp only
  all_goals ((repeat' split) <;> simp)
@[simp] theorem lineAtRest_vref : (lineAtRest s).vref = s.vref := by
  unfold lineAtRest; try dsimp only
  all_goals ((repeat' split) <;> simp)
@[simp] theorem lineAtRest_corr : (lineAtRest s).corr = s.corr := by
  unfold lineAtRest; try dsimp only
  all_goals ((repeat' split) <;> simp)
@[simp] theorem lineAtRest_gains : (lineAtRest s).gains = s.gains := by
  unfold lineAtRest; try dsimp only
  all_goals ((repeat' split) <;> simp)
@[simp] theorem lineAtRest_console : (lineAtRest s).console = s.console := by
  unfold lineAtRest; try dsimp only
  all_goals ((repeat' split) <;> simp)
@[simp] theorem lineAtRest_setup : (lineAtRest s).setup = s.setup := by
  unfold lineAtRest; try dsimp only
  all_goals ((repeat' split) <;> simp)
@[simp] theorem lineAtRest_pins : (lineAtRest s).pins = s.pins := by
  unfold lineAtRest; try dsimp only
  all_goals ((repeat' split) <;> simp)
@[simp] theorem lineAtRest_ledPhase : (lineAtRest s).ledPhase = s.ledPhase := by
  unfold lineAtRest; try dsimp only
  all_goals ((repeat' split) <;> simp)
@[simp] theorem lineAtRest_choices : (lineAtRest s).choices = s.choices := by
  unfold lineAtRest; try dsimp only
  all_goals ((repeat' split) <;> simp)
@[simp] theorem lineAtRest_pending : (lineAtRest s).pending = s.pending := by
  unfold lineAtRest; try dsimp only
  all_goals ((repeat' split) <;> simp)

/-! #### contendNow -/

@[simp] theorem contendNow_uptime : (contendNow s).uptime = s.uptime := by
  unfold contendNow; try dsimp only
  all_goals ((repeat' split) <;> simp)
@[simp] theorem contendNow_ident : (contendNow s).ident = s.ident := by
  unfold contendNow; try dsimp only
  all_goals ((repeat' split) <;> simp)
@[simp] theorem contendNow_node : (contendNow s).node = s.node := by
  unfold contendNow; try dsimp only
  all_goals ((repeat' split) <;> simp)
@[simp] theorem contendNow_check : (contendNow s).check = s.check := by
  unfold contendNow; try dsimp only
  all_goals ((repeat' split) <;> simp)
@[simp] theorem contendNow_peers : (contendNow s).peers = s.peers := by
  unfold contendNow; try dsimp only
  all_goals ((repeat' split) <;> simp)
@[simp] theorem contendNow_sensor : (contendNow s).sensor = s.sensor := by
  unfold contendNow; try dsimp only
  all_goals ((repeat' split) <;> simp)
@[simp] theorem contendNow_drive : (contendNow s).drive = s.drive := by
  unfold contendNow; try dsimp only
  all_goals ((repeat' split) <;> simp)
@[simp] theorem contendNow_vref : (contendNow s).vref = s.vref := by
  unfold contendNow; try dsimp only
  all_goals ((repeat' split) <;> simp)
@[simp] theorem contendNow_corr : (contendNow s).corr = s.corr := by
  unfold contendNow; try dsimp only
  all_goals ((repeat' split) <;> simp)
@[simp] theorem contendNow_gains : (contendNow s).gains = s.gains := by
  unfold contendNow; try dsimp only
  all_goals ((repeat' split) <;> simp)
@[simp] theorem contendNow_console : (contendNow s).console = s.console := by
  unfold contendNow; try dsimp only
  all_goals ((repeat' split) <;> simp)
@[simp] theorem contendNow_setup : (contendNow s).setup = s.setup := by
  unfold contendNow; try dsimp only
  all_goals ((repeat' split) <;> simp)
@[simp] theorem contendNow_pins : (contendNow s).pins = s.pins := by
  unfold contendNow; try dsimp only
  all_goals ((repeat' split) <;> simp)
@[simp] theorem contendNow_ledPhase : (contendNow s).ledPhase = s.ledPhase := by
  unfold contendNow; try dsimp only
  all_goals ((repeat' split) <;> simp)
@[simp] theorem contendNow_choices : (contendNow s).choices = s.choices := by
  unfold contendNow; try dsimp only
  all_goals ((repeat' split) <;> simp)
@[simp] theorem contendNow_pending : (contendNow s).pending = s.pending := by
  unfold contendNow; try dsimp only
  all_goals ((repeat' split) <;> simp)

/-! #### loseContention -/

@[simp] theorem loseContention_uptime : (loseContention s).uptime = s.uptime := by
  unfold loseContention; try dsimp only
  all_goals ((repeat' split) <;> simp)
@[simp] theorem loseContention_ident : (loseContention s).ident = s.ident := by
  unfold loseContention; try dsimp only
  all_goals ((repeat' split) <;> simp)
@[simp] theorem loseContention_node : (loseContention s).node = s.node := by
  unfold loseContention; try dsimp only
  all_goals ((repeat' split) <;> simp)
@[simp] theorem loseContention_check : (loseContention s).check = s.check := by
  unfold loseContention; try dsimp only
  all_goals ((repeat' split) <;> simp)
@[simp] theorem loseContention_peers : (loseContention s).peers = s.peers := by
  unfold loseContention; try dsimp only
  all_goals ((repeat' split) <;> simp)
@[simp] theorem loseContention_sensor : (loseContention s).sensor = s.sensor := by
  unfold loseContention; try dsimp only
  all_goals ((repeat' split) <;> simp)
@[simp] theorem loseContention_drive : (loseContention s).drive = s.drive := by
  unfold loseContention; try dsimp only
  all_goals ((repeat' split) <;> simp)
@[simp] theorem loseContention_vref : (loseContention s).vref = s.vref := by
  unfold loseContention; try dsimp only
  all_goals ((repeat' split) <;> simp)
@[simp] theorem loseContention_corr : (loseContention s).corr = s.corr := by
  unfold loseContention; try dsimp only
  all_goals ((repeat' split) <;> simp)
@[simp] theorem loseContention_gains : (loseContention s).gains = s.gains := by
  unfold loseContention; try dsimp only
  all_goals ((repeat' split) <;> simp)
@[simp] theorem loseContention_console : (loseContention s).console = s.console := by
  unfold loseContention; try dsimp only
  all_goals ((repeat' split) <;> simp)
@[simp] theorem loseContention_setup : (loseContention s).setup = s.setup := by
  unfold loseContention; try dsimp only
  all_goals ((repeat' split) <;> simp)
@[simp] theorem loseContention_pins : (loseContention s).pins = s.pins := by
  unfold loseContention; try dsimp only
  all_goals ((repeat' split) <;> simp)
@[simp] theorem loseContention_ledPhase : (loseContention s).ledPhase = s.ledPhase := by
  unfold loseContention; try dsimp only
  all_goals ((repeat' split) <;> simp)
@[simp] theorem loseContention_choices : (loseContention s).choices = s.choices := by
  unfold loseContention; try dsimp only
  all_goals ((repeat' split) <;> simp)
@[simp] theorem loseContention_pending : (loseContention s).pending = s.pending := by
  unfold loseContention; try dsimp only
  all_goals ((repeat' split) <;> simp)

/-! #### winContention -/

@[simp] theorem winContention_uptime (now : Time) : (winContention now s).uptime = s.uptime := by
  unfold winContention; try dsimp only
  all_goals ((repeat' split) <;> simp)
@[simp] theorem winContention_ident (now : Time) : (winContention now s).ident = s.ident := by
  unfold winContention; try dsimp only
  all_goals ((repeat' split) <;> simp)
@[simp] theorem winContention_node (now : Time) : (winContention now s).node = s.node := by
  unfold winContention; try dsimp only
  all_goals ((repeat' split) <;> simp)
@[simp] theorem winContention_check (now : Time) : (winContention now s).check = s.check := by
  unfold winContention; try dsimp only
  all_goals ((repeat' split) <;> simp)
@[simp] theorem winContention_peers (now : Time) : (winContention now s).peers = s.peers := by
  unfold winContention; try dsimp only
  all_goals ((repeat' split) <;> simp)
@[simp] theorem winContention_sensor (now : Time) : (winContention now s).sensor = s.sensor := by
  unfold winContention; try dsimp only
  all_goals ((repeat' split) <;> simp)
@[simp] theorem winContention_drive (now : Time) : (winContention now s).drive = s.drive := by
  unfold winContention; try dsimp only
  all_goals ((repeat' split) <;> simp)
@[simp] theorem winContention_vref (now : Time) : (winContention now s).vref = s.vref := by
  unfold winContention; try dsimp only
  all_goals ((repeat' split) <;> simp)
@[simp] theorem winContention_corr (now : Time) : (winContention now s).corr = s.corr := by
  unfold winContention; try dsimp only
  all_goals ((repeat' split) <;> simp)
@[simp] theorem winContention_gains (now : Time) : (winContention now s).gains = s.gains := by
  unfold winContention; try dsimp only
  all_goals ((repeat' split) <;> simp)
@[simp] theorem winContention_console (now : Time) : (winContention now s).console = s.console := by
  unfold winContention; try dsimp only
  all_goals ((repeat' split) <;> simp)
@[simp] theorem winContention_setup (now : Time) : (winContention now s).setup = s.setup := by
  unfold winContention; try dsimp only
  all_goals ((repeat' split) <;> simp)
@[simp] theorem winContention_pins (now : Time) : (winContention now s).pins = s.pins := by
  unfold winContention; try dsimp only
  all_goals ((repeat' split) <;> simp)
@[simp] theorem winContention_ledPhase (now : Time) : (winContention now s).ledPhase = s.ledPhase := by
  unfold winContention; try dsimp only
  all_goals ((repeat' split) <;> simp)
@[simp] theorem winContention_choices (now : Time) : (winContention now s).choices = s.choices := by
  unfold winContention; try dsimp only
  all_goals ((repeat' split) <;> simp)
@[simp] theorem winContention_pending (now : Time) : (winContention now s).pending = s.pending := by
  unfold winContention; try dsimp only
  all_goals ((repeat' split) <;> simp)

/-! #### sendSuccess -/

@[simp] theorem sendSuccess_uptime : (sendSuccess s).uptime = s.uptime := by
  unfold sendSuccess; try dsimp only
  all_goals ((repeat' split) <;> simp)
@[simp] theorem sendSuccess_ident : (sendSuccess s).ident = s.ident := by
  unfold sendSuccess; try dsimp only
  all_goals ((repeat' split) <;> simp)
@[simp] theorem sendSuccess_check : (sendSuccess s).check = s.check := by
  unfold sendSuccess; try dsimp only
  all_goals ((repeat' split) <;> simp)
@[simp] theorem sendSuccess_peers : (sendSuccess s).peers = s.peers := by
  unfold sendSuccess; try dsimp only
  all_goals ((repeat' split) <;> simp)
@[simp] theorem sendSuccess_vref : (sendSuccess s).vref = s.vref := by
  unfold sendSuccess; try dsimp only
  all_goals ((repeat' split) <;> simp)
@[simp] theorem sendSuccess_console : (sendSuccess s).console = s.console := by
  unfold sendSuccess; try dsimp only
  all_goals ((repeat' split) <;> simp)
@[simp] theorem sendSuccess_setup : (sendSuccess s).setup = s.setup := by
  unfold sendSuccess; try dsimp only
  all_goals ((repeat' split) <;> simp)
@[simp] theorem sendSuccess_pins : (sendSuccess s).pins = s.pins := by
  unfold sendSuccess; try dsimp only
  all_goals ((repeat' split) <;> simp)
@[simp] theorem sendSuccess_choices : (sendSuccess s).choices = s.choices := by
  unfold sendSuccess; try dsimp only
  all_goals ((repeat' split) <;> simp)
@[simp] theorem sendSuccess_pending : (sendSuccess s).pending = s.pending := by
  unfold sendSuccess; try dsimp only
  all_goals ((repeat' split) <;> simp)

/-! #### sendError -/

@[simp] theorem sendError_uptime : (sendError s).uptime = s.uptime := by
  unfold sendError; try dsimp only
  all_goals ((repeat' split) <;> simp)
@[simp] theorem sendError_ident : (sendError s).ident = s.ident := by
  unfold sendError; try dsimp only
  all_goals ((repeat' split) <;> simp)
@[simp] theorem sendError_check : (sendError s).check = s.check := by
  unfold sendError; try dsimp only
  all_goals ((repeat' split) <;> simp)
@[simp] theorem sendError_peers : (sendError s).peers = s.peers := by
  unfold sendError; try dsimp only
  all_goals ((repeat' split) <;> simp)
@[simp] theorem sendError_vref : (sendError s).vref = s.vref := by
  unfold sendError; try dsimp only
  all_goals ((repeat' split) <;> simp)
@[simp] theorem sendError_console : (sendError s).console = s.console := by
  unfold sendError; try dsimp only
  all_goals ((repeat' split) <;> simp)
@[simp] theorem sendError_setup : (sendError s).setup = s.setup := by
  unfold sendError; try dsimp only
  all_goals ((repeat' split) <;> simp)
@[simp] theorem sendError_pins : (sendError s).pins = s.pins := by
  unfold sendError; try dsimp only
  all_goals ((repeat' split) <;> simp)
@[simp] theorem sendError_choices : (sendError s).choices = s.choices := by
  unfold sendError; try dsimp only
  all_goals ((repeat' split) <;> simp)
@[simp] theorem sendError_pending : (sendError s).pending = s.pending := by
  unfold sendError; try dsimp only
  all_goals ((repeat' split) <;> simp)

/-! #### turnWheel -/

@[simp] theorem turnWheel_uptime (w : Wheel) (c : QuadChange) : (turnWheel w c s).uptime = s.uptime := by
  unfold turnWheel; try dsimp only
  all_goals ((repeat' split) <;> simp)
@[simp] theorem turnWheel_ident (w : Wheel) (c : QuadChange) : (turnWheel w c s).ident = s.ident := by
  unfold turnWheel; try dsimp only
  all_goals ((repeat' split) <;> simp)
@[simp] theorem turnWheel_node (w : Wheel) (c : QuadChange) : (turnWheel w c s).node = s.node := by
  unfold turnWheel; try dsimp only
  all_goals ((repeat' split) <;> simp)
@[simp] theorem turnWheel_check (w : Wheel) (c : QuadChange) : (turnWheel w c s).check = s.check := by
  unfold turnWheel; try dsimp only
  all_goals ((repeat' split) <;> simp)
@[simp] theorem turnWheel_link (w : Wheel) (c : QuadChange) : (turnWheel w c s).link = s.link := by
  unfold turnWheel; try dsimp only
  all_goals ((repeat' split) <;> simp)
@[simp] theorem turnWheel_peers (w : Wheel) (c : QuadChange) : (turnWheel w c s).peers = s.peers := by
  unfold turnWheel; try dsimp only
  all_goals ((repeat' split) <;> simp)
@[simp] theorem turnWheel_sensor (w : Wheel) (c : QuadChange) : (turnWheel w c s).sensor = s.sensor := by
  unfold turnWheel; try dsimp only
  all_goals ((repeat' split) <;> simp)
@[simp] theorem turnWheel_drive (w : Wheel) (c : QuadChange) : (turnWheel w c s).drive = s.drive := by
  unfold turnWheel; try dsimp only
  all_goals ((repeat' split) <;> simp)
@[simp] theorem turnWheel_vref (w : Wheel) (c : QuadChange) : (turnWheel w c s).vref = s.vref := by
  unfold turnWheel; try dsimp only
  all_goals ((repeat' split) <;> simp)
@[simp] theorem turnWheel_corr (w : Wheel) (c : QuadChange) : (turnWheel w c s).corr = s.corr := by
  unfold turnWheel; try dsimp only
  all_goals ((repeat' split) <;> simp)
@[simp] theorem turnWheel_gains (w : Wheel) (c : QuadChange) : (turnWheel w c s).gains = s.gains := by
  unfold turnWheel; try dsimp only
  all_goals ((repeat' split) <;> simp)
@[simp] theorem turnWheel_setup (w : Wheel) (c : QuadChange) : (turnWheel w c s).setup = s.setup := by
  unfold turnWheel; try dsimp only
  all_goals ((repeat' split) <;> simp)
@[simp] theorem turnWheel_ledPhase (w : Wheel) (c : QuadChange) : (turnWheel w c s).ledPhase = s.ledPhase := by
  unfold turnWheel; try dsimp only
  all_goals ((repeat' split) <;> simp)
@[simp] theorem turnWheel_choices (w : Wheel) (c : QuadChange) : (turnWheel w c s).choices = s.choices := by
  unfold turnWheel; try dsimp only
  all_goals ((repeat' split) <;> simp)
@[simp] theorem turnWheel_pending (w : Wheel) (c : QuadChange) : (turnWheel w c s).pending = s.pending := by
  unfold turnWheel; try dsimp only
  all_goals ((repeat' split) <;> simp)

/-! #### pressEngage -/

@[simp] theorem pressEngage_uptime : (pressEngage s).uptime = s.uptime := by
  unfold pressEngage; try dsimp only
  all_goals ((repeat' split) <;> simp)
@[simp] theorem pressEngage_ident : (pressEngage s).ident = s.ident := by
  unfold pressEngage; try dsimp only
  all_goals ((repeat' split) <;> simp)
@[simp] theorem pressEngage_node : (pressEngage s).node = s.node := by
  unfold pressEngage; try dsimp only
  all_goals ((repeat' split) <;> simp)
@[simp] theorem pressEngage_check : (pressEngage s).check = s.check := by
  unfold pressEngage; try dsimp only
  all_goals ((repeat' split) <;> simp)
@[simp] theorem pressEngage_peers : (pressEngage s).peers = s.peers := by
  unfold pressEngage; try dsimp only
  all_goals ((repeat' split) <;> simp)
@[simp] theorem pressEngage_sensor : (pressEngage s).sensor = s.sensor := by
  unfold pressEngage; try dsimp only
  all_goals ((repeat' split) <;> simp)
@[simp] theorem pressEngage_drive : (pressEngage s).drive = s.drive := by
  unfold pressEngage; try dsimp only
  all_goals ((repeat' split) <;> simp)
@[simp] theorem pressEngage_vref : (pressEngage s).vref = s.vref := by
  unfold pressEngage; try dsimp only
  all_goals ((repeat' split) <;> simp)
@[simp] theorem pressEngage_corr : (pressEngage s).corr = s.corr := by
  unfold pressEngage; try dsimp only
  all_goals ((repeat' split) <;> simp)
@[simp] theorem pressEngage_gains : (pressEngage s).gains = s.gains := by
  unfold pressEngage; try dsimp only
  all_goals ((repeat' split) <;> simp)
@[simp] theorem pressEngage_setup : (pressEngage s).setup = s.setup := by
  unfold pressEngage; try dsimp only
  all_goals ((repeat' split) <;> simp)
@[simp] theorem pressEngage_ledPhase : (pressEngage s).ledPhase = s.ledPhase := by
  unfold pressEngage; try dsimp only
  all_goals ((repeat' split) <;> simp)
@[simp] theorem pressEngage_choices : (pressEngage s).choices = s.choices := by
  unfold pressEngage; try dsimp only
  all_goals ((repeat' split) <;> simp)
@[simp] theorem pressEngage_pending : (pressEngage s).pending = s.pending := by
  unfold pressEngage; try dsimp only
  all_goals ((repeat' split) <;> simp)

/-! #### pressPark -/

@[simp] theorem pressPark_uptime : (pressPark s).uptime = s.uptime := by
  unfold pressPark; try dsimp only
  all_goals ((repeat' split) <;> simp)
@[simp] theorem pressPark_ident : (pressPark s).ident = s.ident := by
  unfold pressPark; try dsimp only
  all_goals ((repeat' split) <;> simp)
@[simp] theorem pressPark_node : (pressPark s).node = s.node := by
  unfold pressPark; try dsimp only
  all_goals ((repeat' split) <;> simp)
@[simp] theorem pressPark_check : (pressPark s).check = s.check := by
  unfold pressPark; try dsimp only
  all_goals ((repeat' split) <;> simp)
@[simp] theorem pressPark_peers : (pressPark s).peers = s.peers := by
  unfold pressPark; try dsimp only
  all_goals ((repeat' split) <;> simp)
@[simp] theorem pressPark_sensor : (pressPark s).sensor = s.sensor := by
  unfold pressPark; try dsimp only
  all_goals ((repeat' split) <;> simp)
@[simp] theorem pressPark_drive : (pressPark s).drive = s.drive := by
  unfold pressPark; try dsimp only
  all_goals ((repeat' split) <;> simp)
@[simp] theorem pressPark_vref : (pressPark s).vref = s.vref := by
  unfold pressPark; try dsimp only
  all_goals ((repeat' split) <;> simp)
@[simp] theorem pressPark_corr : (pressPark s).corr = s.corr := by
  unfold pressPark; try dsimp only
  all_goals ((repeat' split) <;> simp)
@[simp] theorem pressPark_gains : (pressPark s).gains = s.gains := by
  unfold pressPark; try dsimp only
  all_goals ((repeat' split) <;> simp)
@[simp] theorem pressPark_setup : (pressPark s).setup = s.setup := by
  unfold pressPark; try dsimp only
  all_goals ((repeat' split) <;> simp)
@[simp] theorem pressPark_ledPhase : (pressPark s).ledPhase = s.ledPhase := by
  unfold pressPark; try dsimp only
  all_goals ((repeat' split) <;> simp)
@[simp] theorem pressPark_choices : (pressPark s).choices = s.choices := by
  unfold pressPark; try dsimp only
  all_goals ((repeat' split) <;> simp)
@[simp] theorem pressPark_pending : (pressPark s).pending = s.pending := by
  unfold pressPark; try dsimp only
  all_goals ((repeat' split) <;> simp)

/-! #### releaseButton -/

@[simp] theorem releaseButton_uptime (b : Button) : (releaseButton b s).uptime = s.uptime := by
  unfold releaseButton; try dsimp only
  all_goals ((repeat' split) <;> simp)
@[simp] theorem releaseButton_ident (b : Button) : (releaseButton b s).ident = s.ident := by
  unfold releaseButton; try dsimp only
  all_goals ((repeat' split) <;> simp)
@[simp] theorem releaseButton_node (b : Button) : (releaseButton b s).node = s.node := by
  unfold releaseButton; try dsimp only
  all_goals ((repeat' split) <;> simp)
@[simp] theorem releaseButton_check (b : Button) : (releaseButton b s).check = s.check := by
  unfold releaseButton; try dsimp only
  all_goals ((repeat' split) <;> simp)
@[simp] theorem releaseButton_link (b : Button) : (releaseButton b s).link = s.link := by
  unfold releaseButton; try dsimp only
  all_goals ((repeat' split) <;> simp)
@[simp] theorem releaseButton_peers (b : Button) : (releaseButton b s).peers = s.peers := by
  unfold releaseButton; try dsimp only
  all_goals ((repeat' split) <;> simp)
@[simp] theorem releaseButton_sensor (b : Button) : (releaseButton b s).sensor = s.sensor := by
  unfold releaseButton; try dsimp only
  all_goals ((repeat' split) <;> simp)
@[simp] theorem releaseButton_drive (b : Button) : (releaseButton b s).drive = s.drive := by
  unfold releaseButton; try dsimp only
  all_goals ((repeat' split) <;> simp)
@[simp] theorem releaseButton_vref (b : Button) : (releaseButton b s).vref = s.vref := by
  unfold releaseButton; try dsimp only
  all_goals ((repeat' split) <;> simp)
@[simp] theorem releaseButton_corr (b : Button) : (releaseButton b s).corr = s.corr := by
  unfold releaseButton; try dsimp only
  all_goals ((repeat' split) <;> simp)
@[simp] theorem releaseButton_gains (b : Button) : (releaseButton b s).gains = s.gains := by
  unfold releaseButton; try dsimp only
  all_goals ((repeat' split) <;> simp)
@[simp] theorem releaseButton_setup (b : Button) : (releaseButton b s).setup = s.setup := by
  unfold releaseButton; try dsimp only
  all_goals ((repeat' split) <;> simp)
@[simp] theorem releaseButton_ledPhase (b : Button) : (releaseButton b s).ledPhase = s.ledPhase := by
  unfold releaseButton; try dsimp only
  all_goals ((repeat' split) <;> simp)
@[simp] theorem releaseButton_choices (b : Button) : (releaseButton b s).choices = s.choices := by
  unfold releaseButton; try dsimp only
  all_goals ((repeat' split) <;> simp)
@[simp] theorem releaseButton_pending (b : Button) : (releaseButton b s).pending = s.pending := by
  unfold releaseButton; try dsimp only
  all_goals ((repeat' split) <;> simp)

/-! #### endTest -/

@[simp] theorem endTest_uptime (f : SelfTestFindings) (now : Time) : (endTest f now s).uptime = s.uptime := by
  unfold endTest; try dsimp only
  all_goals ((repeat' split) <;> simp)
@[simp] theorem endTest_ident (f : SelfTestFindings) (now : Time) : (endTest f now s).ident = s.ident := by
  unfold endTest; try dsimp only
  all_goals ((repeat' split) <;> simp)
@[simp] theorem endTest_node (f : SelfTestFindings) (now : Time) : (endTest f now s).node = s.node := by
  unfold endTest; try dsimp only
  all_goals ((repeat' split) <;> simp)
@[simp] theorem endTest_link (f : SelfTestFindings) (now : Time) : (endTest f now s).link = s.link := by
  unfold endTest; try dsimp only
  all_goals ((repeat' split) <;> simp)
@[simp] theorem endTest_peers (f : SelfTestFindings) (now : Time) : (endTest f now s).peers = s.peers := by
  unfold endTest; try dsimp only
  all_goals ((repeat' split) <;> simp)
@[simp] theorem endTest_sensor (f : SelfTestFindings) (now : Time) : (endTest f now s).sensor = s.sensor := by
  unfold endTest; try dsimp only
  all_goals ((repeat' split) <;> simp)
@[simp] theorem endTest_drive (f : SelfTestFindings) (now : Time) : (endTest f now s).drive = s.drive := by
  unfold endTest; try dsimp only
  all_goals ((repeat' split) <;> simp)
@[simp] theorem endTest_vref (f : SelfTestFindings) (now : Time) : (endTest f now s).vref = s.vref := by
  unfold endTest; try dsimp only
  all_goals ((repeat' split) <;> simp)
@[simp] theorem endTest_corr (f : SelfTestFindings) (now : Time) : (endTest f now s).corr = s.corr := by
  unfold endTest; try dsimp only
  all_goals ((repeat' split) <;> simp)
@[simp] theorem endTest_gains (f : SelfTestFindings) (now : Time) : (endTest f now s).gains = s.gains := by
  unfold endTest; try dsimp only
  all_goals ((repeat' split) <;> simp)
@[simp] theorem endTest_console (f : SelfTestFindings) (now : Time) : (endTest f now s).console = s.console := by
  unfold endTest; try dsimp only
  all_goals ((repeat' split) <;> simp)
@[simp] theorem endTest_setup (f : SelfTestFindings) (now : Time) : (endTest f now s).setup = s.setup := by
  unfold endTest; try dsimp only
  all_goals ((repeat' split) <;> simp)
@[simp] theorem endTest_pins (f : SelfTestFindings) (now : Time) : (endTest f now s).pins = s.pins := by
  unfold endTest; try dsimp only
  all_goals ((repeat' split) <;> simp)
@[simp] theorem endTest_choices (f : SelfTestFindings) (now : Time) : (endTest f now s).choices = s.choices := by
  unfold endTest; try dsimp only
  all_goals ((repeat' split) <;> simp)
@[simp] theorem endTest_pending (f : SelfTestFindings) (now : Time) : (endTest f now s).pending = s.pending := by
  unfold endTest; try dsimp only
  all_goals ((repeat' split) <;> simp)

/-! #### ledStep -/

@[simp] theorem ledStep_uptime : (ledStep s).uptime = s.uptime := by
  unfold ledStep; try dsimp only
  all_goals ((repeat' split) <;> simp)
@[simp] theorem ledStep_ident : (ledStep s).ident = s.ident := by
  unfold ledStep; try dsimp only
  all_goals ((repeat' split) <;> simp)
@[simp] theorem ledStep_node : (ledStep s).node = s.node := by
  unfold ledStep; try dsimp only
  all_goals ((repeat' split) <;> simp)
@[simp] theorem ledStep_check : (ledStep s).check = s.check := by
  unfold ledStep; try dsimp only
  all_goals ((repeat' split) <;> simp)
@[simp] theorem ledStep_link : (ledStep s).link = s.link := by
  unfold ledStep; try dsimp only
  all_goals ((repeat' split) <;> simp)
@[simp] theorem ledStep_peers : (ledStep s).peers = s.peers := by
  unfold ledStep; try dsimp only
  all_goals ((repeat' split) <;> simp)
@[simp] theorem ledStep_sensor : (ledStep s).sensor = s.sensor := by
  unfold ledStep; try dsimp only
  all_goals ((repeat' split) <;> simp)
@[simp] theorem ledStep_drive : (ledStep s).drive = s.drive := by
  unfold ledStep; try dsimp only
  all_goals ((repeat' split) <;> simp)
@[simp] theorem ledStep_vref : (ledStep s).vref = s.vref := by
  unfold ledStep; try dsimp only
  all_goals ((repeat' split) <;> simp)
@[simp] theorem ledStep_corr : (ledStep s).corr = s.corr := by
  unfold ledStep; try dsimp only
  all_goals ((repeat' split) <;> simp)
@[simp] theorem ledStep_gains : (ledStep s).gains = s.gains := by
  unfold ledStep; try dsimp only
  all_goals ((repeat' split) <;> simp)
@[simp] theorem ledStep_console : (ledStep s).console = s.console := by
  unfold ledStep; try dsimp only
  all_goals ((repeat' split) <;> simp)
@[simp] theorem ledStep_setup : (ledStep s).setup = s.setup := by
  unfold ledStep; try dsimp only
  all_goals ((repeat' split) <;> simp)
@[simp] theorem ledStep_pins : (ledStep s).pins = s.pins := by
  unfold ledStep; try dsimp only
  all_goals ((repeat' split) <;> simp)
@[simp] theorem ledStep_choices : (ledStep s).choices = s.choices := by
  unfold ledStep; try dsimp only
  all_goals ((repeat' split) <;> simp)
@[simp] theorem ledStep_pending : (ledStep s).pending = s.pending := by
  unfold ledStep; try dsimp only
  all_goals ((repeat' split) <;> simp)

/-! #### stopEdge -/

@[simp] theorem stopEdge_uptime : (stopEdge s).uptime = s.uptime := by
  unfold stopEdge; try dsimp only
  all_goals ((repeat' split) <;> simp)
@[simp] theorem stopEdge_ident : (stopEdge s).ident = s.ident := by
  unfold stopEdge; try dsimp only
  all_goals ((repeat' split) <;> simp)
@[simp] theorem stopEdge_check : (stopEdge s).check = s.check := by
  unfold stopEdge; try dsimp only
  all_goals ((repeat' split) <;> simp)
@[simp] theorem stopEdge_peers : (stopEdge s).peers = s.peers := by
  unfold stopEdge; try dsimp only
  all_goals ((repeat' split) <;> simp)
@[simp] theorem stopEdge_vref : (stopEdge s).vref = s.vref := by
  unfold stopEdge; try dsimp only
  all_goals ((repeat' split) <;> simp)
@[simp] theorem stopEdge_setup : (stopEdge s).setup = s.setup := by
  unfold stopEdge; try dsimp only
  all_goals ((repeat' split) <;> simp)
@[simp] theorem stopEdge_pins : (stopEdge s).pins = s.pins := by
  unfold stopEdge; try dsimp only
  all_goals ((repeat' split) <;> simp)
@[simp] theorem stopEdge_choices : (stopEdge s).choices = s.choices := by
  unfold stopEdge; try dsimp only
  all_goals ((repeat' split) <;> simp)
@[simp] theorem stopEdge_pending : (stopEdge s).pending = s.pending := by
  unfold stopEdge; try dsimp only
  all_goals ((repeat' split) <;> simp)

/-! #### wake -/

@[simp] theorem wake_uptime (now : Time) : (wake now s).uptime = s.uptime := by
  unfold wake; try dsimp only
  all_goals ((repeat' split) <;> simp)
@[simp] theorem wake_ident (now : Time) : (wake now s).ident = s.ident := by
  unfold wake; try dsimp only
  all_goals ((repeat' split) <;> simp)
@[simp] theorem wake_check (now : Time) : (wake now s).check = s.check := by
  unfold wake; try dsimp only
  all_goals ((repeat' split) <;> simp)
@[simp] theorem wake_setup (now : Time) : (wake now s).setup = s.setup := by
  unfold wake; try dsimp only
  all_goals ((repeat' split) <;> simp)
@[simp] theorem wake_pins (now : Time) : (wake now s).pins = s.pins := by
  unfold wake; try dsimp only
  all_goals ((repeat' split) <;> simp)
@[simp] theorem wake_pending (now : Time) : (wake now s).pending = s.pending := by
  unfold wake; try dsimp only
  all_goals ((repeat' split) <;> simp)

/-! #### wakeEvent -/

@[simp] theorem wakeEvent_ident (now : Time) : (wakeEvent now s).ident = s.ident := by
  unfold wakeEvent; try dsimp only
  all_goals ((repeat' split) <;> simp)
@[simp] theorem wakeEvent_check (now : Time) : (wakeEvent now s).check = s.check := by
  unfold wakeEvent; try dsimp only
  all_goals ((repeat' split) <;> simp)
@[simp] theorem wakeEvent_setup (now : Time) : (wakeEvent now s).setup = s.setup := by
  unfold wakeEvent; try dsimp only
  all_goals ((repeat' split) <;> simp)
@[simp] theorem wakeEvent_pins (now : Time) : (wakeEvent now s).pins = s.pins := by
  unfold wakeEvent; try dsimp only
  all_goals ((repeat' split) <;> simp)
@[simp] theorem wakeEvent_pending (now : Time) : (wakeEvent now s).pending = s.pending := by
  unfold wakeEvent; try dsimp only
  all_goals ((repeat' split) <;> simp)

/-! #### startSeen, lineStart -/

@[simp] theorem startSeen_uptime : (startSeen s).uptime = s.uptime := by
  unfold startSeen; (repeat' split) <;> simp
@[simp] theorem startSeen_ident : (startSeen s).ident = s.ident := by
  unfold startSeen; (repeat' split) <;> simp
@[simp] theorem startSeen_node : (startSeen s).node = s.node := by
  unfold startSeen; (repeat' split) <;> simp
@[simp] theorem startSeen_check : (startSeen s).check = s.check := by
  unfold startSeen; (repeat' split) <;> simp
@[simp] theorem startSeen_peers : (startSeen s).peers = s.peers := by
  unfold startSeen; (repeat' split) <;> simp
@[simp] theorem startSeen_sensor : (startSeen s).sensor = s.sensor := by
  unfold startSeen; (repeat' split) <;> simp
@[simp] theorem startSeen_drive : (startSeen s).drive = s.drive := by
  unfold startSeen; (repeat' split) <;> simp
@[simp] theorem startSeen_vref : (startSeen s).vref = s.vref := by
  unfold startSeen; (repeat' split) <;> simp
@[simp] theorem startSeen_corr : (startSeen s).corr = s.corr := by
  unfold startSeen; (repeat' split) <;> simp
@[simp] theorem startSeen_gains : (startSeen s).gains = s.gains := by
  unfold startSeen; (repeat' split) <;> simp
@[simp] theorem startSeen_console : (startSeen s).console = s.console := by
  unfold startSeen; (repeat' split) <;> simp
@[simp] theorem startSeen_setup : (startSeen s).setup = s.setup := by
  unfold startSeen; (repeat' split) <;> simp
@[simp] theorem startSeen_pins : (startSeen s).pins = s.pins := by
  unfold startSeen; (repeat' split) <;> simp
@[simp] theorem startSeen_ledPhase : (startSeen s).ledPhase = s.ledPhase := by
  unfold startSeen; (repeat' split) <;> simp
@[simp] theorem startSeen_choices : (startSeen s).choices = s.choices := by
  unfold startSeen; (repeat' split) <;> simp
@[simp] theorem startSeen_pending : (startSeen s).pending = s.pending := by
  unfold startSeen; (repeat' split) <;> simp
@[simp] theorem lineStart_ident (now : Time) : (lineStart now s).ident = s.ident := by
  unfold lineStart; split <;> simp
@[simp] theorem lineStart_check (now : Time) : (lineStart now s).check = s.check := by
  unfold lineStart; split <;> simp
@[simp] theorem lineStart_setup (now : Time) : (lineStart now s).setup = s.setup := by
  unfold lineStart; split <;> simp
@[simp] theorem lineStart_pins (now : Time) : (lineStart now s).pins = s.pins := by
  unfold lineStart; split <;> simp
@[simp] theorem lineStart_pending (now : Time) : (lineStart now s).pending = s.pending := by
  unfold lineStart; split <;> simp

/-! #### Keys -/

/-- The slots stand in the order of their keys (R27). -/
theorem slotOrder_keys_rise (s : State) :
    slotOrder.Pairwise (fun j k => (slotKey s j).toNat < (slotKey s k).toNat) := by
  have h : ∀ a : Addr, slotOrder.Pairwise (fun j k =>
      (slotClass j ++ a : BitVec 6).toNat < (slotClass k ++ a : BitVec 6).toNat) := by decide
  exact h s.ident.address

end Sys2Proof.Machine
end

