-- ==== Sys2Proof/Laws/Receive.lean ====
section
/-! SUPPORT. Reception at a node that hears: what receive, the filter and each frame row come down to. -/

namespace Sys2Proof.Machine

variable (s : State)

@[simp] theorem State.heard_uptime (n : Time) : (s.heard n).uptime = n := rfl
@[simp] theorem State.heard_ident (n : Time) : (s.heard n).ident = s.ident := rfl
@[simp] theorem State.heard_node (n : Time) : (s.heard n).node = s.node := rfl
@[simp] theorem State.heard_check (n : Time) : (s.heard n).check = s.check := rfl
@[simp] theorem State.heard_peers (n : Time) : (s.heard n).peers = s.peers := rfl
@[simp] theorem State.heard_sensor (n : Time) : (s.heard n).sensor = s.sensor := rfl
@[simp] theorem State.heard_drive (n : Time) : (s.heard n).drive = s.drive := rfl
@[simp] theorem State.heard_vref (n : Time) : (s.heard n).vref = s.vref := rfl
@[simp] theorem State.heard_corr (n : Time) : (s.heard n).corr = s.corr := rfl
@[simp] theorem State.heard_gains (n : Time) : (s.heard n).gains = s.gains := rfl
@[simp] theorem State.heard_console (n : Time) : (s.heard n).console = s.console := rfl
@[simp] theorem State.heard_setup (n : Time) : (s.heard n).setup = s.setup := rfl
@[simp] theorem State.heard_pins (n : Time) : (s.heard n).pins = s.pins := rfl
@[simp] theorem State.heard_ledPhase (n : Time) : (s.heard n).ledPhase = s.ledPhase := rfl
@[simp] theorem State.heard_choices (n : Time) : (s.heard n).choices = s.choices := rfl
@[simp] theorem State.heard_pending (n : Time) : (s.heard n).pending = s.pending := rfl

/-- A judgement of the hold causes changes nothing where no cause is present. -/
theorem judgeHold_of_no_cause (h : holdCause s = false) : judgeHold s = s := by
  unfold judgeHold; simp [h]

/-- A judgement of the hold causes changes nothing outside ENGAGED and HOLD. -/
theorem judgeHold_of_state (h1 : s.node.state ≠ .engaged) (h2 : s.node.state ≠ .hold) :
    judgeHold s = s := by
  unfold judgeHold; simp [h1, h2]

/-- A node that contends is neither in SELFCHECK nor UNASSIGNED nor STANDBY. -/
theorem contends_states (h : contends s.node.state = true) :
    s.node.state ≠ .selfcheck ∧ s.node.state ≠ .unassigned ∧ s.node.state ≠ .standby := by
  refine ⟨?_, ?_, ?_⟩ <;> intro h' <;> simp [h', contends] at h

/-- A node that hears receives. -/
theorem receives_of_hearing (h : s.hearing) (n : Time) : receives (s.setUptime n) = true := by
  obtain ⟨h1, h2, h3, -⟩ := h
  obtain ⟨a, -, c⟩ := contends_states s h1
  simp [receives, a, c, h2, h3]

/-- A judgement of the hold causes changes nothing where they stand judged. -/
theorem judgeHold_of_judged (h : s.judged) : judgeHold s = s := by
  obtain ⟨h1, h2⟩ := h
  unfold judgeHold
  cases hc : holdCause s
  · simp
  · by_cases he : s.node.state = .engaged
    · simp [h1 he] at hc
    · by_cases hh : s.node.state = .hold
      · have h3 := h2 hh hc
        obtain ⟨⟩ := s; rename_i node _ _ _ _ _ _ _ _ _ _ _ _ _ _
        obtain ⟨⟩ := node; simp_all [State.setNode]
      · simp [he, hh]

/-- Counting a valid frame gives the state heard. -/
theorem heard_of_countValid (n : Time) :
    (s.setUptime n).setLink (countValid (s.setUptime n).link) = s.heard n := by
  unfold countValid State.heard
  by_cases hm : s.link.health = .mute
  · by_cases hr : s.link.receptionRun = 63 <;> simp [State.setUptime, State.setLink, hm, hr]
  · simp [State.setUptime, State.setLink, hm]

/-- A node that hears counts a valid frame and passes it on. -/
theorem receive_of_hearing (h : s.hearing) (f : Frame) (c n : Time) :
    receive f c n s = passOn f c n (s.heard n) := by
  have hr := receives_of_hearing s h n
  have hj : judgeHold (s.heard n) = s.heard n := judgeHold_of_judged _ h.2.2.2
  simp only [receive, hr, heard_of_countValid, hj, if_true]

/-- A frame from elsewhere reaches the filter. -/
theorem passOn_of_hearing (h : s.hearing) (f : Frame) (c n : Time) (hs : f.src ≠ s.ident.address) :
    passOn f c n (s.heard n) = filterFrame f c n (s.heard n) := by
  obtain ⟨-, b, -⟩ := contends_states s h.1
  simp [passOn, b, hs]

/-- A COMMAND that names a hearing node is taken or ignored by its op. -/
theorem receive_command (h : s.hearing) (a : CommandArgs) (op : BitVec 4) (n : Time)
    (ha : s.addressed a) : receiveAt (commandFrame op a) n s = takeCommand op a.auth (s.heard n) := by
  obtain ⟨h1, h2⟩ := ha
  rw [receiveAt, receive_of_hearing s h, passOn_of_hearing s h _ _ _ h1]
  have hc : commandForNode a.target (s.heard n) = true := by simpa [commandForNode] using h2
  simp [filterFrame, commandFrame, hc]

/-- A SETUP that names a hearing node is judged. -/
theorem receive_setup (h : s.hearing) (a : SetupArgs) (item : Byte) (n : Time)
    (h1 : a.src ≠ s.ident.address) (h2 : a.target.toNat = s.ident.address.toNat) :
    receiveAt (setupFrame item a) n s =
      takeSetup { auth := a.auth, target := a.target, item := item, v1 := a.v1, v2 := a.v2
                  v3 := a.v3, v4 := a.v4 } (s.heard n) := by
  rw [receiveAt, receive_of_hearing s h, passOn_of_hearing s h _ _ _ h1]
  simp [filterFrame, setupFrame, frameForNode, h2]

/-- A QUERY that names a hearing node is answered. -/
theorem receive_query (h : s.hearing) (a : QueryArgs) (item : BitVec 5) (n : Time)
    (ha : s.asked a) :
    receiveAt (queryFrame item a) n s =
      takeQuery { target := a.target, item := item, part := a.part } n (s.heard n) := by
  obtain ⟨h1, h2⟩ := ha
  rw [receiveAt, receive_of_hearing s h, passOn_of_hearing s h _ _ _ h1]
  simp [filterFrame, queryFrame, frameForNode, h2]

end Sys2Proof.Machine
end

