-- ==== Sys2Proof/Laws/Delivery.lean ====
section
/-! SUPPORT. The sample path as one thing: what a sample trigger does (runTrigger_of_ends), and what it
leaves as it was inside the blocks it works on. -/

namespace Sys2Proof.Machine

variable (s : State)

/-! #### Helpers of the blocks -/

@[simp] theorem resolveMarks_pending (g : GainDir) (r : Regime) :
    (resolveMarks g r).pending = g.pending := rfl
@[simp] theorem resolveMarks_regime (g : GainDir) (r : Regime) :
    (resolveMarks g r).regime = g.regime := rfl
@[simp] theorem putPage_pending (g : GainDir) (p : PageNo) (x : Page) :
    (putPage g p x).pending = g.pending := rfl
@[simp] theorem putPage_regime (g : GainDir) (p : PageNo) (x : Page) :
    (putPage g p x).regime = g.regime := rfl
@[simp] theorem markStrained_pending (g : GainDir) : (markStrained g).pending = g.pending := by
  unfold markStrained; split <;> rfl
@[simp] theorem markStrained_regime (g : GainDir) : (markStrained g).regime = g.regime := by
  unfold markStrained; split <;> rfl
@[simp] theorem engageBlend_pending (g : GainDir) : (engageBlend g).pending = g.pending := rfl
@[simp] theorem timeoutBias_timer (x : Sensor) : (timeoutBias x).timer = x.timer := by
  unfold timeoutBias; (repeat' split) <;> rfl
@[simp] theorem timeoutBias_count (x : Sensor) : (timeoutBias x).count = x.count := by
  unfold timeoutBias; (repeat' split) <;> rfl
@[simp] theorem timeoutBias_illegal (x : Sensor) : (timeoutBias x).illegal = x.illegal := by
  unfold timeoutBias; (repeat' split) <;> rfl
@[simp] theorem timeoutBias_homeRef (x : Sensor) : (timeoutBias x).homeRef = x.homeRef := by
  unfold timeoutBias; (repeat' split) <;> rfl

/-! #### node.homed -/

@[simp] theorem moveTo_node_homed (n : NodeState) : (moveTo n s).node.homed = s.node.homed := by
  unfold moveTo; try dsimp only
  all_goals ((repeat' split) <;> first | rfl | simp)
@[simp] theorem enterFault_node_homed (c : Cause) : (enterFault c s).node.homed = s.node.homed := by
  unfold enterFault; try dsimp only
  all_goals ((repeat' split) <;> first | rfl | simp)
@[simp] theorem raise_node_homed (c : Cause) : (raise c s).node.homed = s.node.homed := by
  unfold raise; try dsimp only
  all_goals ((repeat' split) <;> first | rfl | simp)
@[simp] theorem raiseTwo_node_homed (c d : Cause) : (raiseTwo c d s).node.homed = s.node.homed := by
  unfold raiseTwo; try dsimp only
  all_goals ((repeat' split) <;> first | rfl | simp)
@[simp] theorem raiseFound_node_homed (b : Bool) (o : Option Cause) : (raiseFound b o s).node.homed = s.node.homed := by
  unfold raiseFound; try dsimp only
  all_goals ((repeat' split) <;> first | rfl | simp)
@[simp] theorem judgeHold_node_homed : (judgeHold s).node.homed = s.node.homed := by
  unfold judgeHold; try dsimp only
  all_goals ((repeat' split) <;> first | rfl | simp)
@[simp] theorem enterParking_node_homed : (enterParking s).node.homed = s.node.homed := by
  unfold enterParking; try dsimp only
  all_goals ((repeat' split) <;> first | rfl | simp)
@[simp] theorem enterEngaged_node_homed : (enterEngaged s).node.homed = s.node.homed := by
  unfold enterEngaged; try dsimp only
  all_goals ((repeat' split) <;> first | rfl | simp)
@[simp] theorem engageOrHold_node_homed : (engageOrHold s).node.homed = s.node.homed := by
  unfold engageOrHold; try dsimp only
  all_goals ((repeat' split) <;> first | rfl | simp)
@[simp] theorem leaveSettling_node_homed : (leaveSettling s).node.homed = s.node.homed := by
  unfold leaveSettling; try dsimp only
  all_goals ((repeat' split) <;> first | rfl | simp)
@[simp] theorem homeSample_node_homed : (homeSample s).node.homed = s.node.homed := by
  unfold homeSample; try dsimp only
  all_goals ((repeat' split) <;> first | rfl | simp)
@[simp] theorem arrive_node_homed : (arrive s).node.homed = s.node.homed := by
  unfold arrive; try dsimp only
  all_goals ((repeat' split) <;> first | rfl | simp)
@[simp] theorem parkSample_node_homed (a r : Int) : (parkSample a r s).node.homed = s.node.homed := by
  unfold parkSample; try dsimp only
  all_goals ((repeat' split) <;> first | rfl | simp)
@[simp] theorem holdSample_node_homed : (holdSample s).node.homed = s.node.homed := by
  unfold holdSample; try dsimp only
  all_goals ((repeat' split) <;> first | rfl | simp)
@[simp] theorem missReading_node_homed : (missReading s).node.homed = s.node.homed := by
  unfold missReading; try dsimp only
  all_goals ((repeat' split) <;> first | rfl | simp)
@[simp] theorem captureSample_node_homed (p : Sample) : (captureSample p s).node.homed = s.node.homed := by
  unfold captureSample; try dsimp only
  all_goals ((repeat' split) <;> first | rfl | simp)
@[simp] theorem reversalStep_node_homed : (reversalStep s).node.homed = s.node.homed := by
  unfold reversalStep; try dsimp only
  all_goals ((repeat' split) <;> first | rfl | simp)
@[simp] theorem engagedSent_node_homed (l a u : Int) : (engagedSent l a u s).node.homed = s.node.homed := by
  unfold engagedSent; try dsimp only
  all_goals ((repeat' split) <;> first | rfl | simp)
@[simp] theorem engagedSample_node_homed (a b c : Int) : (engagedSample a b c s).node.homed = s.node.homed := by
  unfold engagedSample; try dsimp only
  all_goals ((repeat' split) <;> first | rfl | simp)
@[simp] theorem commandSample_node_homed (st : NodeState) (a b c : Int) : (commandSample st a b c s).node.homed = s.node.homed := by
  unfold commandSample; try dsimp only
  all_goals ((repeat' split) <;> first | rfl | simp)
@[simp] theorem settlingSample_node_homed (st : NodeState) (p : Sample) : (settlingSample st p s).node.homed = s.node.homed := by
  unfold settlingSample; try dsimp only
  all_goals ((repeat' split) <;> first | rfl | simp)
@[simp] theorem correctionSample_node_homed (st : NodeState) (p : Sample) : (correctionSample st p s).node.homed = s.node.homed := by
  unfold correctionSample; try dsimp only
  all_goals ((repeat' split) <;> first | rfl | simp)
@[simp] theorem holdExitStep_node_homed (st : NodeState) : (holdExitStep st s).node.homed = s.node.homed := by
  unfold holdExitStep; try dsimp only
  all_goals ((repeat' split) <;> first | rfl | simp)
@[simp] theorem evaluateFor_node_homed (t : Time) : (evaluateFor t s).node.homed = s.node.homed := by
  unfold evaluateFor; try dsimp only
  all_goals ((repeat' split) <;> first | rfl | simp)
@[simp] theorem upstream_node_homed (st : NodeState) (p : Sample) : (upstream st p s).node.homed = s.node.homed := by
  unfold upstream; try dsimp only
  all_goals ((repeat' split) <;> first | rfl | simp)
@[simp] theorem handOn_node_homed (st : NodeState) (p : Sample) : (handOn st p s).node.homed = s.node.homed := by
  unfold handOn; try dsimp only
  all_goals ((repeat' split) <;> first | rfl | simp)
@[simp] theorem evaluated_node_homed (q : Request) (p : Sample) : (evaluated q p s).node.homed = s.node.homed := by
  unfold evaluated; try dsimp only
  all_goals ((repeat' split) <;> first | rfl | simp)
@[simp] theorem deliver_node_homed (q : Request) (v : Bool) : (deliver q v s).node.homed = s.node.homed := by
  unfold deliver; try dsimp only
  all_goals ((repeat' split) <;> first | rfl | simp)
@[simp] theorem abandonRequest_node_homed : (abandonRequest s).node.homed = s.node.homed := by
  unfold abandonRequest; try dsimp only
  all_goals ((repeat' split) <;> first | rfl | simp)

/-! #### node.ignored -/

@[simp] theorem moveTo_node_ignored (n : NodeState) : (moveTo n s).node.ignored = s.node.ignored := by
  unfold moveTo; try dsimp only
  all_goals ((repeat' split) <;> first | rfl | simp)
@[simp] theorem enterFault_node_ignored (c : Cause) : (enterFault c s).node.ignored = s.node.ignored := by
  unfold enterFault; try dsimp only
  all_goals ((repeat' split) <;> first | rfl | simp)
@[simp] theorem raise_node_ignored (c : Cause) : (raise c s).node.ignored = s.node.ignored := by
  unfold raise; try dsimp only
  all_goals ((repeat' split) <;> first | rfl | simp)
@[simp] theorem raiseTwo_node_ignored (c d : Cause) : (raiseTwo c d s).node.ignored = s.node.ignored := by
  unfold raiseTwo; try dsimp only
  all_goals ((repeat' split) <;> first | rfl | simp)
@[simp] theorem raiseFound_node_ignored (b : Bool) (o : Option Cause) : (raiseFound b o s).node.ignored = s.node.ignored := by
  unfold raiseFound; try dsimp only
  all_goals ((repeat' split) <;> first | rfl | simp)
@[simp] theorem judgeHold_node_ignored : (judgeHold s).node.ignored = s.node.ignored := by
  unfold judgeHold; try dsimp only
  all_goals ((repeat' split) <;> first | rfl | simp)
@[simp] theorem enterParking_node_ignored : (enterParking s).node.ignored = s.node.ignored := by
  unfold enterParking; try dsimp only
  all_goals ((repeat' split) <;> first | rfl | simp)
@[simp] theorem enterEngaged_node_ignored : (enterEngaged s).node.ignored = s.node.ignored := by
  unfold enterEngaged; try dsimp only
  all_goals ((repeat' split) <;> first | rfl | simp)
@[simp] theorem engageOrHold_node_ignored : (engageOrHold s).node.ignored = s.node.ignored := by
  unfold engageOrHold; try dsimp only
  all_goals ((repeat' split) <;> first | rfl | simp)
@[simp] theorem leaveSettling_node_ignored : (leaveSettling s).node.ignored = s.node.ignored := by
  unfold leaveSettling; try dsimp only
  all_goals ((repeat' split) <;> first | rfl | simp)
@[simp] theorem homeSample_node_ignored : (homeSample s).node.ignored = s.node.ignored := by
  unfold homeSample; try dsimp only
  all_goals ((repeat' split) <;> first | rfl | simp)
@[simp] theorem arrive_node_ignored : (arrive s).node.ignored = s.node.ignored := by
  unfold arrive; try dsimp only
  all_goals ((repeat' split) <;> first | rfl | simp)
@[simp] theorem parkSample_node_ignored (a r : Int) : (parkSample a r s).node.ignored = s.node.ignored := by
  unfold parkSample; try dsimp only
  all_goals ((repeat' split) <;> first | rfl | simp)
@[simp] theorem holdSample_node_ignored : (holdSample s).node.ignored = s.node.ignored := by
  unfold holdSample; try dsimp only
  all_goals ((repeat' split) <;> first | rfl | simp)
@[simp] theorem missReading_node_ignored : (missReading s).node.ignored = s.node.ignored := by
  unfold missReading; try dsimp only
  all_goals ((repeat' split) <;> first | rfl | simp)
@[simp] theorem captureSample_node_ignored (p : Sample) : (captureSample p s).node.ignored = s.node.ignored := by
  unfold captureSample; try dsimp only
  all_goals ((repeat' split) <;> first | rfl | simp)
@[simp] theorem reversalStep_node_ignored : (reversalStep s).node.ignored = s.node.ignored := by
  unfold reversalStep; try dsimp only
  all_goals ((repeat' split) <;> first | rfl | simp)
@[simp] theorem engagedSent_node_ignored (l a u : Int) : (engagedSent l a u s).node.ignored = s.node.ignored := by
  unfold engagedSent; try dsimp only
  all_goals ((repeat' split) <;> first | rfl | simp)
@[simp] theorem engagedSample_node_ignored (a b c : Int) : (engagedSample a b c s).node.ignored = s.node.ignored := by
  unfold engagedSample; try dsimp only
  all_goals ((repeat' split) <;> first | rfl | simp)
@[simp] theorem commandSample_node_ignored (st : NodeState) (a b c : Int) : (commandSample st a b c s).node.ignored = s.node.ignored := by
  unfold commandSample; try dsimp only
  all_goals ((repeat' split) <;> first | rfl | simp)
@[simp] theorem settlingSample_node_ignored (st : NodeState) (p : Sample) : (settlingSample st p s).node.ignored = s.node.ignored := by
  unfold settlingSample; try dsimp only
  all_goals ((repeat' split) <;> first | rfl | simp)
@[simp] theorem correctionSample_node_ignored (st : NodeState) (p : Sample) : (correctionSample st p s).node.ignored = s.node.ignored := by
  unfold correctionSample; try dsimp only
  all_goals ((repeat' split) <;> first | rfl | simp)
@[simp] theorem holdExitStep_node_ignored (st : NodeState) : (holdExitStep st s).node.ignored = s.node.ignored := by
  unfold holdExitStep; try dsimp only
  all_goals ((repeat' split) <;> first | rfl | simp)
@[simp] theorem evaluateFor_node_ignored (t : Time) : (evaluateFor t s).node.ignored = s.node.ignored := by
  unfold evaluateFor; try dsimp only
  all_goals ((repeat' split) <;> first | rfl | simp)
@[simp] theorem upstream_node_ignored (st : NodeState) (p : Sample) : (upstream st p s).node.ignored = s.node.ignored := by
  unfold upstream; try dsimp only
  all_goals ((repeat' split) <;> first | rfl | simp)
@[simp] theorem handOn_node_ignored (st : NodeState) (p : Sample) : (handOn st p s).node.ignored = s.node.ignored := by
  unfold handOn; try dsimp only
  all_goals ((repeat' split) <;> first | rfl | simp)
@[simp] theorem evaluated_node_ignored (q : Request) (p : Sample) : (evaluated q p s).node.ignored = s.node.ignored := by
  unfold evaluated; try dsimp only
  all_goals ((repeat' split) <;> first | rfl | simp)
@[simp] theorem deliver_node_ignored (q : Request) (v : Bool) : (deliver q v s).node.ignored = s.node.ignored := by
  unfold deliver; try dsimp only
  all_goals ((repeat' split) <;> first | rfl | simp)
@[simp] theorem abandonRequest_node_ignored : (abandonRequest s).node.ignored = s.node.ignored := by
  unfold abandonRequest; try dsimp only
  all_goals ((repeat' split) <;> first | rfl | simp)

/-! #### sensor.timer -/

@[simp] theorem moveTo_sensor_timer (n : NodeState) : (moveTo n s).sensor.timer = s.sensor.timer := by
  unfold moveTo; try dsimp only
  all_goals ((repeat' split) <;> first | rfl | simp)
@[simp] theorem enterFault_sensor_timer (c : Cause) : (enterFault c s).sensor.timer = s.sensor.timer := by
  unfold enterFault; try dsimp only
  all_goals ((repeat' split) <;> first | rfl | simp)
@[simp] theorem raise_sensor_timer (c : Cause) : (raise c s).sensor.timer = s.sensor.timer := by
  unfold raise; try dsimp only
  all_goals ((repeat' split) <;> first | rfl | simp)
@[simp] theorem raiseTwo_sensor_timer (c d : Cause) : (raiseTwo c d s).sensor.timer = s.sensor.timer := by
  unfold raiseTwo; try dsimp only
  all_goals ((repeat' split) <;> first | rfl | simp)
@[simp] theorem raiseFound_sensor_timer (b : Bool) (o : Option Cause) : (raiseFound b o s).sensor.timer = s.sensor.timer := by
  unfold raiseFound; try dsimp only
  all_goals ((repeat' split) <;> first | rfl | simp)
@[simp] theorem judgeHold_sensor_timer : (judgeHold s).sensor.timer = s.sensor.timer := by
  unfold judgeHold; try dsimp only
  all_goals ((repeat' split) <;> first | rfl | simp)
@[simp] theorem enterParking_sensor_timer : (enterParking s).sensor.timer = s.sensor.timer := by
  unfold enterParking; try dsimp only
  all_goals ((repeat' split) <;> first | rfl | simp)
@[simp] theorem enterEngaged_sensor_timer : (enterEngaged s).sensor.timer = s.sensor.timer := by
  unfold enterEngaged; try dsimp only
  all_goals ((repeat' split) <;> first | rfl | simp)
@[simp] theorem engageOrHold_sensor_timer : (engageOrHold s).sensor.timer = s.sensor.timer := by
  unfold engageOrHold; try dsimp only
  all_goals ((repeat' split) <;> first | rfl | simp)
@[simp] theorem leaveSettling_sensor_timer : (leaveSettling s).sensor.timer = s.sensor.timer := by
  unfold leaveSettling; try dsimp only
  all_goals ((repeat' split) <;> first | rfl | simp)
@[simp] theorem pageChange_sensor_timer (p : PageNo) : (pageChange p s).sensor.timer = s.sensor.timer := by
  unfold pageChange; try dsimp only
  all_goals ((repeat' split) <;> first | rfl | simp)
@[simp] theorem resolveInUse_sensor_timer (r : Regime) : (resolveInUse r s).sensor.timer = s.sensor.timer := by
  unfold resolveInUse; try dsimp only
  all_goals ((repeat' split) <;> first | rfl | simp)
@[simp] theorem switchRegime_sensor_timer (r : Regime) : (switchRegime r s).sensor.timer = s.sensor.timer := by
  unfold switchRegime; try dsimp only
  all_goals ((repeat' split) <;> first | rfl | simp)
@[simp] theorem testLocalPending_sensor_timer (t : Time) : (testLocalPending t s).sensor.timer = s.sensor.timer := by
  unfold testLocalPending; try dsimp only
  all_goals ((repeat' split) <;> first | rfl | simp)
@[simp] theorem homeSample_sensor_timer : (homeSample s).sensor.timer = s.sensor.timer := by
  unfold homeSample; try dsimp only
  all_goals ((repeat' split) <;> first | rfl | simp)
@[simp] theorem arrive_sensor_timer : (arrive s).sensor.timer = s.sensor.timer := by
  unfold arrive; try dsimp only
  all_goals ((repeat' split) <;> first | rfl | simp)
@[simp] theorem parkSample_sensor_timer (a r : Int) : (parkSample a r s).sensor.timer = s.sensor.timer := by
  unfold parkSample; try dsimp only
  all_goals ((repeat' split) <;> first | rfl | simp)
@[simp] theorem holdSample_sensor_timer : (holdSample s).sensor.timer = s.sensor.timer := by
  unfold holdSample; try dsimp only
  all_goals ((repeat' split) <;> first | rfl | simp)
@[simp] theorem rememberAngle_sensor_timer (a : Int) : (rememberAngle a s).sensor.timer = s.sensor.timer := by
  unfold rememberAngle; try dsimp only
  all_goals ((repeat' split) <;> first | rfl | simp)
@[simp] theorem missReading_sensor_timer : (missReading s).sensor.timer = s.sensor.timer := by
  unfold missReading; try dsimp only
  all_goals ((repeat' split) <;> first | rfl | simp)
@[simp] theorem captureSample_sensor_timer (p : Sample) : (captureSample p s).sensor.timer = s.sensor.timer := by
  unfold captureSample; try dsimp only
  all_goals ((repeat' split) <;> first | rfl | simp)
@[simp] theorem roughnessStep_sensor_timer (st : NodeState) (p : Sample) : (roughnessStep st p s).sensor.timer = s.sensor.timer := by
  unfold roughnessStep; try dsimp only
  all_goals ((repeat' split) <;> first | rfl | simp)
@[simp] theorem testEffect_sensor_timer (t : Time) : (testEffect t s).sensor.timer = s.sensor.timer := by
  unfold testEffect; try dsimp only
  all_goals ((repeat' split) <;> first | rfl | simp)
@[simp] theorem regimeStep_sensor_timer (st : NodeState) (t : Time) : (regimeStep st t s).sensor.timer = s.sensor.timer := by
  unfold regimeStep; try dsimp only
  all_goals ((repeat' split) <;> first | rfl | simp)
@[simp] theorem vehicleSample_sensor_timer (st : NodeState) (p : Sample) : (vehicleSample st p s).sensor.timer = s.sensor.timer := by
  unfold vehicleSample; try dsimp only
  all_goals ((repeat' split) <;> first | rfl | simp)
@[simp] theorem reversalStep_sensor_timer : (reversalStep s).sensor.timer = s.sensor.timer := by
  unfold reversalStep; try dsimp only
  all_goals ((repeat' split) <;> first | rfl | simp)
@[simp] theorem engagedSent_sensor_timer (l a u : Int) : (engagedSent l a u s).sensor.timer = s.sensor.timer := by
  unfold engagedSent; try dsimp only
  all_goals ((repeat' split) <;> first | rfl | simp)
@[simp] theorem engagedSample_sensor_timer (a b c : Int) : (engagedSample a b c s).sensor.timer = s.sensor.timer := by
  unfold engagedSample; try dsimp only
  all_goals ((repeat' split) <;> first | rfl | simp)
@[simp] theorem commandSample_sensor_timer (st : NodeState) (a b c : Int) : (commandSample st a b c s).sensor.timer = s.sensor.timer := by
  unfold commandSample; try dsimp only
  all_goals ((repeat' split) <;> first | rfl | simp)
@[simp] theorem settlingSample_sensor_timer (st : NodeState) (p : Sample) : (settlingSample st p s).sensor.timer = s.sensor.timer := by
  unfold settlingSample; try dsimp only
  all_goals ((repeat' split) <;> first | rfl | simp)
@[simp] theorem correctionSample_sensor_timer (st : NodeState) (p : Sample) : (correctionSample st p s).sensor.timer = s.sensor.timer := by
  unfold correctionSample; try dsimp only
  all_goals ((repeat' split) <;> first | rfl | simp)
@[simp] theorem holdExitStep_sensor_timer (st : NodeState) : (holdExitStep st s).sensor.timer = s.sensor.timer := by
  unfold holdExitStep; try dsimp only
  all_goals ((repeat' split) <;> first | rfl | simp)
@[simp] theorem evaluateFor_sensor_timer (t : Time) : (evaluateFor t s).sensor.timer = s.sensor.timer := by
  unfold evaluateFor; try dsimp only
  all_goals ((repeat' split) <;> first | rfl | simp)
@[simp] theorem peerJointSample_sensor_timer (st : NodeState) (t : Time) : (peerJointSample st t s).sensor.timer = s.sensor.timer := by
  unfold peerJointSample; try dsimp only
  all_goals ((repeat' split) <;> first | rfl | simp)
@[simp] theorem upstream_sensor_timer (st : NodeState) (p : Sample) : (upstream st p s).sensor.timer = s.sensor.timer := by
  unfold upstream; try dsimp only
  all_goals ((repeat' split) <;> first | rfl | simp)
@[simp] theorem handOn_sensor_timer (st : NodeState) (p : Sample) : (handOn st p s).sensor.timer = s.sensor.timer := by
  unfold handOn; try dsimp only
  all_goals ((repeat' split) <;> first | rfl | simp)
@[simp] theorem evaluated_sensor_timer (q : Request) (p : Sample) : (evaluated q p s).sensor.timer = s.sensor.timer := by
  unfold evaluated; try dsimp only
  all_goals ((repeat' split) <;> first | rfl | simp)
@[simp] theorem deliver_sensor_timer (q : Request) (v : Bool) : (deliver q v s).sensor.timer = s.sensor.timer := by
  unfold deliver; try dsimp only
  all_goals ((repeat' split) <;> first | rfl | simp)
@[simp] theorem abandonRequest_sensor_timer : (abandonRequest s).sensor.timer = s.sensor.timer := by
  unfold abandonRequest; try dsimp only
  all_goals ((repeat' split) <;> first | rfl | simp)
@[simp] theorem sendRequest_sensor_timer (now : Time) (c : BitVec 32) : (sendRequest now c s).sensor.timer = s.sensor.timer := by
  unfold sendRequest; try dsimp only
  all_goals ((repeat' split) <;> first | rfl | simp)

/-! #### sensor.count -/

@[simp] theorem moveTo_sensor_count (n : NodeState) : (moveTo n s).sensor.count = s.sensor.count := by
  unfold moveTo; try dsimp only
  all_goals ((repeat' split) <;> first | rfl | simp)
@[simp] theorem enterFault_sensor_count (c : Cause) : (enterFault c s).sensor.count = s.sensor.count := by
  unfold enterFault; try dsimp only
  all_goals ((repeat' split) <;> first | rfl | simp)
@[simp] theorem raise_sensor_count (c : Cause) : (raise c s).sensor.count = s.sensor.count := by
  unfold raise; try dsimp only
  all_goals ((repeat' split) <;> first | rfl | simp)
@[simp] theorem raiseTwo_sensor_count (c d : Cause) : (raiseTwo c d s).sensor.count = s.sensor.count := by
  unfold raiseTwo; try dsimp only
  all_goals ((repeat' split) <;> first | rfl | simp)
@[simp] theorem raiseFound_sensor_count (b : Bool) (o : Option Cause) : (raiseFound b o s).sensor.count = s.sensor.count := by
  unfold raiseFound; try dsimp only
  all_goals ((repeat' split) <;> first | rfl | simp)
@[simp] theorem judgeHold_sensor_count : (judgeHold s).sensor.count = s.sensor.count := by
  unfold judgeHold; try dsimp only
  all_goals ((repeat' split) <;> first | rfl | simp)
@[simp] theorem enterParking_sensor_count : (enterParking s).sensor.count = s.sensor.count := by
  unfold enterParking; try dsimp only
  all_goals ((repeat' split) <;> first | rfl | simp)
@[simp] theorem enterEngaged_sensor_count : (enterEngaged s).sensor.count = s.sensor.count := by
  unfold enterEngaged; try dsimp only
  all_goals ((repeat' split) <;> first | rfl | simp)
@[simp] theorem engageOrHold_sensor_count : (engageOrHold s).sensor.count = s.sensor.count := by
  unfold engageOrHold; try dsimp only
  all_goals ((repeat' split) <;> first | rfl | simp)
@[simp] theorem leaveSettling_sensor_count : (leaveSettling s).sensor.count = s.sensor.count := by
  unfold leaveSettling; try dsimp only
  all_goals ((repeat' split) <;> first | rfl | simp)
@[simp] theorem pageChange_sensor_count (p : PageNo) : (pageChange p s).sensor.count = s.sensor.count := by
  unfold pageChange; try dsimp only
  all_goals ((repeat' split) <;> first | rfl | simp)
@[simp] theorem resolveInUse_sensor_count (r : Regime) : (resolveInUse r s).sensor.count = s.sensor.count := by
  unfold resolveInUse; try dsimp only
  all_goals ((repeat' split) <;> first | rfl | simp)
@[simp] theorem switchRegime_sensor_count (r : Regime) : (switchRegime r s).sensor.count = s.sensor.count := by
  unfold switchRegime; try dsimp only
  all_goals ((repeat' split) <;> first | rfl | simp)
@[simp] theorem testLocalPending_sensor_count (t : Time) : (testLocalPending t s).sensor.count = s.sensor.count := by
  unfold testLocalPending; try dsimp only
  all_goals ((repeat' split) <;> first | rfl | simp)
@[simp] theorem homeSample_sensor_count : (homeSample s).sensor.count = s.sensor.count := by
  unfold homeSample; try dsimp only
  all_goals ((repeat' split) <;> first | rfl | simp)
@[simp] theorem arrive_sensor_count : (arrive s).sensor.count = s.sensor.count := by
  unfold arrive; try dsimp only
  all_goals ((repeat' split) <;> first | rfl | simp)
@[simp] theorem parkSample_sensor_count (a r : Int) : (parkSample a r s).sensor.count = s.sensor.count := by
  unfold parkSample; try dsimp only
  all_goals ((repeat' split) <;> first | rfl | simp)
@[simp] theorem holdSample_sensor_count : (holdSample s).sensor.count = s.sensor.count := by
  unfold holdSample; try dsimp only
  all_goals ((repeat' split) <;> first | rfl | simp)
@[simp] theorem rememberAngle_sensor_count (a : Int) : (rememberAngle a s).sensor.count = s.sensor.count := by
  unfold rememberAngle; try dsimp only
  all_goals ((repeat' split) <;> first | rfl | simp)
@[simp] theorem missReading_sensor_count : (missReading s).sensor.count = s.sensor.count := by
  unfold missReading; try dsimp only
  all_goals ((repeat' split) <;> first | rfl | simp)
@[simp] theorem captureSample_sensor_count (p : Sample) : (captureSample p s).sensor.count = s.sensor.count := by
  unfold captureSample; try dsimp only
  all_goals ((repeat' split) <;> first | rfl | simp)
@[simp] theorem roughnessStep_sensor_count (st : NodeState) (p : Sample) : (roughnessStep st p s).sensor.count = s.sensor.count := by
  unfold roughnessStep; try dsimp only
  all_goals ((repeat' split) <;> first | rfl | simp)
@[simp] theorem testEffect_sensor_count (t : Time) : (testEffect t s).sensor.count = s.sensor.count := by
  unfold testEffect; try dsimp only
  all_goals ((repeat' split) <;> first | rfl | simp)
@[simp] theorem regimeStep_sensor_count (st : NodeState) (t : Time) : (regimeStep st t s).sensor.count = s.sensor.count := by
  unfold regimeStep; try dsimp only
  all_goals ((repeat' split) <;> first | rfl | simp)
@[simp] theorem vehicleSample_sensor_count (st : NodeState) (p : Sample) : (vehicleSample st p s).sensor.count = s.sensor.count := by
  unfold vehicleSample; try dsimp only
  all_goals ((repeat' split) <;> first | rfl | simp)
@[simp] theorem reversalStep_sensor_count : (reversalStep s).sensor.count = s.sensor.count := by
  unfold reversalStep; try dsimp only
  all_goals ((repeat' split) <;> first | rfl | simp)
@[simp] theorem engagedSent_sensor_count (l a u : Int) : (engagedSent l a u s).sensor.count = s.sensor.count := by
  unfold engagedSent; try dsimp only
  all_goals ((repeat' split) <;> first | rfl | simp)
@[simp] theorem engagedSample_sensor_count (a b c : Int) : (engagedSample a b c s).sensor.count = s.sensor.count := by
  unfold engagedSample; try dsimp only
  all_goals ((repeat' split) <;> first | rfl | simp)
@[simp] theorem commandSample_sensor_count (st : NodeState) (a b c : Int) : (commandSample st a b c s).sensor.count = s.sensor.count := by
  unfold commandSample; try dsimp only
  all_goals ((repeat' split) <;> first | rfl | simp)
@[simp] theorem settlingSample_sensor_count (st : NodeState) (p : Sample) : (settlingSample st p s).sensor.count = s.sensor.count := by
  unfold settlingSample; try dsimp only
  all_goals ((repeat' split) <;> first | rfl | simp)
@[simp] theorem correctionSample_sensor_count (st : NodeState) (p : Sample) : (correctionSample st p s).sensor.count = s.sensor.count := by
  unfold correctionSample; try dsimp only
  all_goals ((repeat' split) <;> first | rfl | simp)
@[simp] theorem holdExitStep_sensor_count (st : NodeState) : (holdExitStep st s).sensor.count = s.sensor.count := by
  unfold holdExitStep; try dsimp only
  all_goals ((repeat' split) <;> first | rfl | simp)
@[simp] theorem evaluateFor_sensor_count (t : Time) : (evaluateFor t s).sensor.count = s.sensor.count := by
  unfold evaluateFor; try dsimp only
  all_goals ((repeat' split) <;> first | rfl | simp)
@[simp] theorem peerJointSample_sensor_count (st : NodeState) (t : Time) : (peerJointSample st t s).sensor.count = s.sensor.count := by
  unfold peerJointSample; try dsimp only
  all_goals ((repeat' split) <;> first | rfl | simp)
@[simp] theorem upstream_sensor_count (st : NodeState) (p : Sample) : (upstream st p s).sensor.count = s.sensor.count := by
  unfold upstream; try dsimp only
  all_goals ((repeat' split) <;> first | rfl | simp)
@[simp] theorem handOn_sensor_count (st : NodeState) (p : Sample) : (handOn st p s).sensor.count = s.sensor.count := by
  unfold handOn; try dsimp only
  all_goals ((repeat' split) <;> first | rfl | simp)
@[simp] theorem evaluated_sensor_count (q : Request) (p : Sample) : (evaluated q p s).sensor.count = s.sensor.count := by
  unfold evaluated; try dsimp only
  all_goals ((repeat' split) <;> first | rfl | simp)
@[simp] theorem deliver_sensor_count (q : Request) (v : Bool) : (deliver q v s).sensor.count = s.sensor.count := by
  unfold deliver; try dsimp only
  all_goals ((repeat' split) <;> first | rfl | simp)
@[simp] theorem abandonRequest_sensor_count : (abandonRequest s).sensor.count = s.sensor.count := by
  unfold abandonRequest; try dsimp only
  all_goals ((repeat' split) <;> first | rfl | simp)
@[simp] theorem sendRequest_sensor_count (now : Time) (c : BitVec 32) : (sendRequest now c s).sensor.count = s.sensor.count := by
  unfold sendRequest; try dsimp only
  all_goals ((repeat' split) <;> first | rfl | simp)

/-! #### sensor.illegal -/

@[simp] theorem moveTo_sensor_illegal (n : NodeState) : (moveTo n s).sensor.illegal = s.sensor.illegal := by
  unfold moveTo; try dsimp only
  all_goals ((repeat' split) <;> first | rfl | simp)
@[simp] theorem enterFault_sensor_illegal (c : Cause) : (enterFault c s).sensor.illegal = s.sensor.illegal := by
  unfold enterFault; try dsimp only
  all_goals ((repeat' split) <;> first | rfl | simp)
@[simp] theorem raise_sensor_illegal (c : Cause) : (raise c s).sensor.illegal = s.sensor.illegal := by
  unfold raise; try dsimp only
  all_goals ((repeat' split) <;> first | rfl | simp)
@[simp] theorem raiseTwo_sensor_illegal (c d : Cause) : (raiseTwo c d s).sensor.illegal = s.sensor.illegal := by
  unfold raiseTwo; try dsimp only
  all_goals ((repeat' split) <;> first | rfl | simp)
@[simp] theorem raiseFound_sensor_illegal (b : Bool) (o : Option Cause) : (raiseFound b o s).sensor.illegal = s.sensor.illegal := by
  unfold raiseFound; try dsimp only
  all_goals ((repeat' split) <;> first | rfl | simp)
@[simp] theorem judgeHold_sensor_illegal : (judgeHold s).sensor.illegal = s.sensor.illegal := by
  unfold judgeHold; try dsimp only
  all_goals ((repeat' split) <;> first | rfl | simp)
@[simp] theorem enterParking_sensor_illegal : (enterParking s).sensor.illegal = s.sensor.illegal := by
  unfold enterParking; try dsimp only
  all_goals ((repeat' split) <;> first | rfl | simp)
@[simp] theorem enterEngaged_sensor_illegal : (enterEngaged s).sensor.illegal = s.sensor.illegal := by
  unfold enterEngaged; try dsimp only
  all_goals ((repeat' split) <;> first | rfl | simp)
@[simp] theorem engageOrHold_sensor_illegal : (engageOrHold s).sensor.illegal = s.sensor.illegal := by
  unfold engageOrHold; try dsimp only
  all_goals ((repeat' split) <;> first | rfl | simp)
@[simp] theorem leaveSettling_sensor_illegal : (leaveSettling s).sensor.illegal = s.sensor.illegal := by
  unfold leaveSettling; try dsimp only
  all_goals ((repeat' split) <;> first | rfl | simp)
@[simp] theorem pageChange_sensor_illegal (p : PageNo) : (pageChange p s).sensor.illegal = s.sensor.illegal := by
  unfold pageChange; try dsimp only
  all_goals ((repeat' split) <;> first | rfl | simp)
@[simp] theorem resolveInUse_sensor_illegal (r : Regime) : (resolveInUse r s).sensor.illegal = s.sensor.illegal := by
  unfold resolveInUse; try dsimp only
  all_goals ((repeat' split) <;> first | rfl | simp)
@[simp] theorem switchRegime_sensor_illegal (r : Regime) : (switchRegime r s).sensor.illegal = s.sensor.illegal := by
  unfold switchRegime; try dsimp only
  all_goals ((repeat' split) <;> first | rfl | simp)
@[simp] theorem testLocalPending_sensor_illegal (t : Time) : (testLocalPending t s).sensor.illegal = s.sensor.illegal := by
  unfold testLocalPending; try dsimp only
  all_goals ((repeat' split) <;> first | rfl | simp)
@[simp] theorem homeSample_sensor_illegal : (homeSample s).sensor.illegal = s.sensor.illegal := by
  unfold homeSample; try dsimp only
  all_goals ((repeat' split) <;> first | rfl | simp)
@[simp] theorem arrive_sensor_illegal : (arrive s).sensor.illegal = s.sensor.illegal := by
  unfold arrive; try dsimp only
  all_goals ((repeat' split) <;> first | rfl | simp)
@[simp] theorem parkSample_sensor_illegal (a r : Int) : (parkSample a r s).sensor.illegal = s.sensor.illegal := by
  unfold parkSample; try dsimp only
  all_goals ((repeat' split) <;> first | rfl | simp)
@[simp] theorem holdSample_sensor_illegal : (holdSample s).sensor.illegal = s.sensor.illegal := by
  unfold holdSample; try dsimp only
  all_goals ((repeat' split) <;> first | rfl | simp)
@[simp] theorem rememberAngle_sensor_illegal (a : Int) : (rememberAngle a s).sensor.illegal = s.sensor.illegal := by
  unfold rememberAngle; try dsimp only
  all_goals ((repeat' split) <;> first | rfl | simp)
@[simp] theorem missReading_sensor_illegal : (missReading s).sensor.illegal = s.sensor.illegal := by
  unfold missReading; try dsimp only
  all_goals ((repeat' split) <;> first | rfl | simp)
@[simp] theorem captureSample_sensor_illegal (p : Sample) : (captureSample p s).sensor.illegal = s.sensor.illegal := by
  unfold captureSample; try dsimp only
  all_goals ((repeat' split) <;> first | rfl | simp)
@[simp] theorem roughnessStep_sensor_illegal (st : NodeState) (p : Sample) : (roughnessStep st p s).sensor.illegal = s.sensor.illegal := by
  unfold roughnessStep; try dsimp only
  all_goals ((repeat' split) <;> first | rfl | simp)
@[simp] theorem testEffect_sensor_illegal (t : Time) : (testEffect t s).sensor.illegal = s.sensor.illegal := by
  unfold testEffect; try dsimp only
  all_goals ((repeat' split) <;> first | rfl | simp)
@[simp] theorem regimeStep_sensor_illegal (st : NodeState) (t : Time) : (regimeStep st t s).sensor.illegal = s.sensor.illegal := by
  unfold regimeStep; try dsimp only
  all_goals ((repeat' split) <;> first | rfl | simp)
@[simp] theorem vehicleSample_sensor_illegal (st : NodeState) (p : Sample) : (vehicleSample st p s).sensor.illegal = s.sensor.illegal := by
  unfold vehicleSample; try dsimp only
  all_goals ((repeat' split) <;> first | rfl | simp)
@[simp] theorem reversalStep_sensor_illegal : (reversalStep s).sensor.illegal = s.sensor.illegal := by
  unfold reversalStep; try dsimp only
  all_goals ((repeat' split) <;> first | rfl | simp)
@[simp] theorem engagedSent_sensor_illegal (l a u : Int) : (engagedSent l a u s).sensor.illegal = s.sensor.illegal := by
  unfold engagedSent; try dsimp only
  all_goals ((repeat' split) <;> first | rfl | simp)
@[simp] theorem engagedSample_sensor_illegal (a b c : Int) : (engagedSample a b c s).sensor.illegal = s.sensor.illegal := by
  unfold engagedSample; try dsimp only
  all_goals ((repeat' split) <;> first | rfl | simp)
@[simp] theorem commandSample_sensor_illegal (st : NodeState) (a b c : Int) : (commandSample st a b c s).sensor.illegal = s.sensor.illegal := by
  unfold commandSample; try dsimp only
  all_goals ((repeat' split) <;> first | rfl | simp)
@[simp] theorem settlingSample_sensor_illegal (st : NodeState) (p : Sample) : (settlingSample st p s).sensor.illegal = s.sensor.illegal := by
  unfold settlingSample; try dsimp only
  all_goals ((repeat' split) <;> first | rfl | simp)
@[simp] theorem correctionSample_sensor_illegal (st : NodeState) (p : Sample) : (correctionSample st p s).sensor.illegal = s.sensor.illegal := by
  unfold correctionSample; try dsimp only
  all_goals ((repeat' split) <;> first | rfl | simp)
@[simp] theorem holdExitStep_sensor_illegal (st : NodeState) : (holdExitStep st s).sensor.illegal = s.sensor.illegal := by
  unfold holdExitStep; try dsimp only
  all_goals ((repeat' split) <;> first | rfl | simp)
@[simp] theorem evaluateFor_sensor_illegal (t : Time) : (evaluateFor t s).sensor.illegal = s.sensor.illegal := by
  unfold evaluateFor; try dsimp only
  all_goals ((repeat' split) <;> first | rfl | simp)
@[simp] theorem peerJointSample_sensor_illegal (st : NodeState) (t : Time) : (peerJointSample st t s).sensor.illegal = s.sensor.illegal := by
  unfold peerJointSample; try dsimp only
  all_goals ((repeat' split) <;> first | rfl | simp)
@[simp] theorem upstream_sensor_illegal (st : NodeState) (p : Sample) : (upstream st p s).sensor.illegal = s.sensor.illegal := by
  unfold upstream; try dsimp only
  all_goals ((repeat' split) <;> first | rfl | simp)
@[simp] theorem handOn_sensor_illegal (st : NodeState) (p : Sample) : (handOn st p s).sensor.illegal = s.sensor.illegal := by
  unfold handOn; try dsimp only
  all_goals ((repeat' split) <;> first | rfl | simp)
@[simp] theorem evaluated_sensor_illegal (q : Request) (p : Sample) : (evaluated q p s).sensor.illegal = s.sensor.illegal := by
  unfold evaluated; try dsimp only
  all_goals ((repeat' split) <;> first | rfl | simp)
@[simp] theorem deliver_sensor_illegal (q : Request) (v : Bool) : (deliver q v s).sensor.illegal = s.sensor.illegal := by
  unfold deliver; try dsimp only
  all_goals ((repeat' split) <;> first | rfl | simp)
@[simp] theorem abandonRequest_sensor_illegal : (abandonRequest s).sensor.illegal = s.sensor.illegal := by
  unfold abandonRequest; try dsimp only
  all_goals ((repeat' split) <;> first | rfl | simp)
@[simp] theorem sendRequest_sensor_illegal (now : Time) (c : BitVec 32) : (sendRequest now c s).sensor.illegal = s.sensor.illegal := by
  unfold sendRequest; try dsimp only
  all_goals ((repeat' split) <;> first | rfl | simp)

/-! #### sensor.homeRef -/

@[simp] theorem moveTo_sensor_homeRef (n : NodeState) : (moveTo n s).sensor.homeRef = s.sensor.homeRef := by
  unfold moveTo; try dsimp only
  all_goals ((repeat' split) <;> first | rfl | simp)
@[simp] theorem enterFault_sensor_homeRef (c : Cause) : (enterFault c s).sensor.homeRef = s.sensor.homeRef := by
  unfold enterFault; try dsimp only
  all_goals ((repeat' split) <;> first | rfl | simp)
@[simp] theorem raise_sensor_homeRef (c : Cause) : (raise c s).sensor.homeRef = s.sensor.homeRef := by
  unfold raise; try dsimp only
  all_goals ((repeat' split) <;> first | rfl | simp)
@[simp] theorem raiseTwo_sensor_homeRef (c d : Cause) : (raiseTwo c d s).sensor.homeRef = s.sensor.homeRef := by
  unfold raiseTwo; try dsimp only
  all_goals ((repeat' split) <;> first | rfl | simp)
@[simp] theorem raiseFound_sensor_homeRef (b : Bool) (o : Option Cause) : (raiseFound b o s).sensor.homeRef = s.sensor.homeRef := by
  unfold raiseFound; try dsimp only
  all_goals ((repeat' split) <;> first | rfl | simp)
@[simp] theorem judgeHold_sensor_homeRef : (judgeHold s).sensor.homeRef = s.sensor.homeRef := by
  unfold judgeHold; try dsimp only
  all_goals ((repeat' split) <;> first | rfl | simp)
@[simp] theorem enterParking_sensor_homeRef : (enterParking s).sensor.homeRef = s.sensor.homeRef := by
  unfold enterParking; try dsimp only
  all_goals ((repeat' split) <;> first | rfl | simp)
@[simp] theorem enterEngaged_sensor_homeRef : (enterEngaged s).sensor.homeRef = s.sensor.homeRef := by
  unfold enterEngaged; try dsimp only
  all_goals ((repeat' split) <;> first | rfl | simp)
@[simp] theorem engageOrHold_sensor_homeRef : (engageOrHold s).sensor.homeRef = s.sensor.homeRef := by
  unfold engageOrHold; try dsimp only
  all_goals ((repeat' split) <;> first | rfl | simp)
@[simp] theorem leaveSettling_sensor_homeRef : (leaveSettling s).sensor.homeRef = s.sensor.homeRef := by
  unfold leaveSettling; try dsimp only
  all_goals ((repeat' split) <;> first | rfl | simp)
@[simp] theorem pageChange_sensor_homeRef (p : PageNo) : (pageChange p s).sensor.homeRef = s.sensor.homeRef := by
  unfold pageChange; try dsimp only
  all_goals ((repeat' split) <;> first | rfl | simp)
@[simp] theorem resolveInUse_sensor_homeRef (r : Regime) : (resolveInUse r s).sensor.homeRef = s.sensor.homeRef := by
  unfold resolveInUse; try dsimp only
  all_goals ((repeat' split) <;> first | rfl | simp)
@[simp] theorem switchRegime_sensor_homeRef (r : Regime) : (switchRegime r s).sensor.homeRef = s.sensor.homeRef := by
  unfold switchRegime; try dsimp only
  all_goals ((repeat' split) <;> first | rfl | simp)
@[simp] theorem testLocalPending_sensor_homeRef (t : Time) : (testLocalPending t s).sensor.homeRef = s.sensor.homeRef := by
  unfold testLocalPending; try dsimp only
  all_goals ((repeat' split) <;> first | rfl | simp)
@[simp] theorem homeSample_sensor_homeRef : (homeSample s).sensor.homeRef = s.sensor.homeRef := by
  unfold homeSample; try dsimp only
  all_goals ((repeat' split) <;> first | rfl | simp)
@[simp] theorem arrive_sensor_homeRef : (arrive s).sensor.homeRef = s.sensor.homeRef := by
  unfold arrive; try dsimp only
  all_goals ((repeat' split) <;> first | rfl | simp)
@[simp] theorem parkSample_sensor_homeRef (a r : Int) : (parkSample a r s).sensor.homeRef = s.sensor.homeRef := by
  unfold parkSample; try dsimp only
  all_goals ((repeat' split) <;> first | rfl | simp)
@[simp] theorem holdSample_sensor_homeRef : (holdSample s).sensor.homeRef = s.sensor.homeRef := by
  unfold holdSample; try dsimp only
  all_goals ((repeat' split) <;> first | rfl | simp)
@[simp] theorem rememberAngle_sensor_homeRef (a : Int) : (rememberAngle a s).sensor.homeRef = s.sensor.homeRef := by
  unfold rememberAngle; try dsimp only
  all_goals ((repeat' split) <;> first | rfl | simp)
@[simp] theorem missReading_sensor_homeRef : (missReading s).sensor.homeRef = s.sensor.homeRef := by
  unfold missReading; try dsimp only
  all_goals ((repeat' split) <;> first | rfl | simp)
@[simp] theorem captureSample_sensor_homeRef (p : Sample) : (captureSample p s).sensor.homeRef = s.sensor.homeRef := by
  unfold captureSample; try dsimp only
  all_goals ((repeat' split) <;> first | rfl | simp)
@[simp] theorem roughnessStep_sensor_homeRef (st : NodeState) (p : Sample) : (roughnessStep st p s).sensor.homeRef = s.sensor.homeRef := by
  unfold roughnessStep; try dsimp only
  all_goals ((repeat' split) <;> first | rfl | simp)
@[simp] theorem testEffect_sensor_homeRef (t : Time) : (testEffect t s).sensor.homeRef = s.sensor.homeRef := by
  unfold testEffect; try dsimp only
  all_goals ((repeat' split) <;> first | rfl | simp)
@[simp] theorem regimeStep_sensor_homeRef (st : NodeState) (t : Time) : (regimeStep st t s).sensor.homeRef = s.sensor.homeRef := by
  unfold regimeStep; try dsimp only
  all_goals ((repeat' split) <;> first | rfl | simp)
@[simp] theorem vehicleSample_sensor_homeRef (st : NodeState) (p : Sample) : (vehicleSample st p s).sensor.homeRef = s.sensor.homeRef := by
  unfold vehicleSample; try dsimp only
  all_goals ((repeat' split) <;> first | rfl | simp)
@[simp] theorem reversalStep_sensor_homeRef : (reversalStep s).sensor.homeRef = s.sensor.homeRef := by
  unfold reversalStep; try dsimp only
  all_goals ((repeat' split) <;> first | rfl | simp)
@[simp] theorem engagedSent_sensor_homeRef (l a u : Int) : (engagedSent l a u s).sensor.homeRef = s.sensor.homeRef := by
  unfold engagedSent; try dsimp only
  all_goals ((repeat' split) <;> first | rfl | simp)
@[simp] theorem engagedSample_sensor_homeRef (a b c : Int) : (engagedSample a b c s).sensor.homeRef = s.sensor.homeRef := by
  unfold engagedSample; try dsimp only
  all_goals ((repeat' split) <;> first | rfl | simp)
@[simp] theorem commandSample_sensor_homeRef (st : NodeState) (a b c : Int) : (commandSample st a b c s).sensor.homeRef = s.sensor.homeRef := by
  unfold commandSample; try dsimp only
  all_goals ((repeat' split) <;> first | rfl | simp)
@[simp] theorem settlingSample_sensor_homeRef (st : NodeState) (p : Sample) : (settlingSample st p s).sensor.homeRef = s.sensor.homeRef := by
  unfold settlingSample; try dsimp only
  all_goals ((repeat' split) <;> first | rfl | simp)
@[simp] theorem correctionSample_sensor_homeRef (st : NodeState) (p : Sample) : (correctionSample st p s).sensor.homeRef = s.sensor.homeRef := by
  unfold correctionSample; try dsimp only
  all_goals ((repeat' split) <;> first | rfl | simp)
@[simp] theorem holdExitStep_sensor_homeRef (st : NodeState) : (holdExitStep st s).sensor.homeRef = s.sensor.homeRef := by
  unfold holdExitStep; try dsimp only
  all_goals ((repeat' split) <;> first | rfl | simp)
@[simp] theorem evaluateFor_sensor_homeRef (t : Time) : (evaluateFor t s).sensor.homeRef = s.sensor.homeRef := by
  unfold evaluateFor; try dsimp only
  all_goals ((repeat' split) <;> first | rfl | simp)
@[simp] theorem peerJointSample_sensor_homeRef (st : NodeState) (t : Time) : (peerJointSample st t s).sensor.homeRef = s.sensor.homeRef := by
  unfold peerJointSample; try dsimp only
  all_goals ((repeat' split) <;> first | rfl | simp)
@[simp] theorem upstream_sensor_homeRef (st : NodeState) (p : Sample) : (upstream st p s).sensor.homeRef = s.sensor.homeRef := by
  unfold upstream; try dsimp only
  all_goals ((repeat' split) <;> first | rfl | simp)
@[simp] theorem handOn_sensor_homeRef (st : NodeState) (p : Sample) : (handOn st p s).sensor.homeRef = s.sensor.homeRef := by
  unfold handOn; try dsimp only
  all_goals ((repeat' split) <;> first | rfl | simp)
@[simp] theorem evaluated_sensor_homeRef (q : Request) (p : Sample) : (evaluated q p s).sensor.homeRef = s.sensor.homeRef := by
  unfold evaluated; try dsimp only
  all_goals ((repeat' split) <;> first | rfl | simp)
@[simp] theorem deliver_sensor_homeRef (q : Request) (v : Bool) : (deliver q v s).sensor.homeRef = s.sensor.homeRef := by
  unfold deliver; try dsimp only
  all_goals ((repeat' split) <;> first | rfl | simp)
@[simp] theorem abandonRequest_sensor_homeRef : (abandonRequest s).sensor.homeRef = s.sensor.homeRef := by
  unfold abandonRequest; try dsimp only
  all_goals ((repeat' split) <;> first | rfl | simp)
@[simp] theorem sendRequest_sensor_homeRef (now : Time) (c : BitVec 32) : (sendRequest now c s).sensor.homeRef = s.sensor.homeRef := by
  unfold sendRequest; try dsimp only
  all_goals ((repeat' split) <;> first | rfl | simp)

/-! #### drive.minTripped -/

@[simp] theorem moveTo_drive_minTripped (n : NodeState) : (moveTo n s).drive.minTripped = s.drive.minTripped := by
  unfold moveTo; try dsimp only
  all_goals ((repeat' split) <;> first | rfl | simp)
@[simp] theorem enterFault_drive_minTripped (c : Cause) : (enterFault c s).drive.minTripped = s.drive.minTripped := by
  unfold enterFault; try dsimp only
  all_goals ((repeat' split) <;> first | rfl | simp)
@[simp] theorem raise_drive_minTripped (c : Cause) : (raise c s).drive.minTripped = s.drive.minTripped := by
  unfold raise; try dsimp only
  all_goals ((repeat' split) <;> first | rfl | simp)
@[simp] theorem raiseTwo_drive_minTripped (c d : Cause) : (raiseTwo c d s).drive.minTripped = s.drive.minTripped := by
  unfold raiseTwo; try dsimp only
  all_goals ((repeat' split) <;> first | rfl | simp)
@[simp] theorem raiseFound_drive_minTripped (b : Bool) (o : Option Cause) : (raiseFound b o s).drive.minTripped = s.drive.minTripped := by
  unfold raiseFound; try dsimp only
  all_goals ((repeat' split) <;> first | rfl | simp)
@[simp] theorem judgeHold_drive_minTripped : (judgeHold s).drive.minTripped = s.drive.minTripped := by
  unfold judgeHold; try dsimp only
  all_goals ((repeat' split) <;> first | rfl | simp)
@[simp] theorem enterParking_drive_minTripped : (enterParking s).drive.minTripped = s.drive.minTripped := by
  unfold enterParking; try dsimp only
  all_goals ((repeat' split) <;> first | rfl | simp)
@[simp] theorem enterEngaged_drive_minTripped : (enterEngaged s).drive.minTripped = s.drive.minTripped := by
  unfold enterEngaged; try dsimp only
  all_goals ((repeat' split) <;> first | rfl | simp)
@[simp] theorem engageOrHold_drive_minTripped : (engageOrHold s).drive.minTripped = s.drive.minTripped := by
  unfold engageOrHold; try dsimp only
  all_goals ((repeat' split) <;> first | rfl | simp)
@[simp] theorem leaveSettling_drive_minTripped : (leaveSettling s).drive.minTripped = s.drive.minTripped := by
  unfold leaveSettling; try dsimp only
  all_goals ((repeat' split) <;> first | rfl | simp)
@[simp] theorem sendCommand_drive_minTripped (u : Int) : (sendCommand u s).drive.minTripped = s.drive.minTripped := by
  unfold sendCommand; try dsimp only
  all_goals ((repeat' split) <;> first | rfl | simp)
@[simp] theorem homeSample_drive_minTripped : (homeSample s).drive.minTripped = s.drive.minTripped := by
  unfold homeSample; try dsimp only
  all_goals ((repeat' split) <;> first | rfl | simp)
@[simp] theorem arrive_drive_minTripped : (arrive s).drive.minTripped = s.drive.minTripped := by
  unfold arrive; try dsimp only
  all_goals ((repeat' split) <;> first | rfl | simp)
@[simp] theorem parkSample_drive_minTripped (a r : Int) : (parkSample a r s).drive.minTripped = s.drive.minTripped := by
  unfold parkSample; try dsimp only
  all_goals ((repeat' split) <;> first | rfl | simp)
@[simp] theorem holdSample_drive_minTripped : (holdSample s).drive.minTripped = s.drive.minTripped := by
  unfold holdSample; try dsimp only
  all_goals ((repeat' split) <;> first | rfl | simp)
@[simp] theorem missReading_drive_minTripped : (missReading s).drive.minTripped = s.drive.minTripped := by
  unfold missReading; try dsimp only
  all_goals ((repeat' split) <;> first | rfl | simp)
@[simp] theorem captureSample_drive_minTripped (p : Sample) : (captureSample p s).drive.minTripped = s.drive.minTripped := by
  unfold captureSample; try dsimp only
  all_goals ((repeat' split) <;> first | rfl | simp)
@[simp] theorem reversalStep_drive_minTripped : (reversalStep s).drive.minTripped = s.drive.minTripped := by
  unfold reversalStep; try dsimp only
  all_goals ((repeat' split) <;> first | rfl | simp)
@[simp] theorem engagedSent_drive_minTripped (l a u : Int) : (engagedSent l a u s).drive.minTripped = s.drive.minTripped := by
  unfold engagedSent; try dsimp only
  all_goals ((repeat' split) <;> first | rfl | simp)
@[simp] theorem engagedSample_drive_minTripped (a b c : Int) : (engagedSample a b c s).drive.minTripped = s.drive.minTripped := by
  unfold engagedSample; try dsimp only
  all_goals ((repeat' split) <;> first | rfl | simp)
@[simp] theorem commandSample_drive_minTripped (st : NodeState) (a b c : Int) : (commandSample st a b c s).drive.minTripped = s.drive.minTripped := by
  unfold commandSample; try dsimp only
  all_goals ((repeat' split) <;> first | rfl | simp)
@[simp] theorem settlingSample_drive_minTripped (st : NodeState) (p : Sample) : (settlingSample st p s).drive.minTripped = s.drive.minTripped := by
  unfold settlingSample; try dsimp only
  all_goals ((repeat' split) <;> first | rfl | simp)
@[simp] theorem correctionSample_drive_minTripped (st : NodeState) (p : Sample) : (correctionSample st p s).drive.minTripped = s.drive.minTripped := by
  unfold correctionSample; try dsimp only
  all_goals ((repeat' split) <;> first | rfl | simp)
@[simp] theorem holdExitStep_drive_minTripped (st : NodeState) : (holdExitStep st s).drive.minTripped = s.drive.minTripped := by
  unfold holdExitStep; try dsimp only
  all_goals ((repeat' split) <;> first | rfl | simp)
@[simp] theorem evaluateFor_drive_minTripped (t : Time) : (evaluateFor t s).drive.minTripped = s.drive.minTripped := by
  unfold evaluateFor; try dsimp only
  all_goals ((repeat' split) <;> first | rfl | simp)
@[simp] theorem upstream_drive_minTripped (st : NodeState) (p : Sample) : (upstream st p s).drive.minTripped = s.drive.minTripped := by
  unfold upstream; try dsimp only
  all_goals ((repeat' split) <;> first | rfl | simp)
@[simp] theorem handOn_drive_minTripped (st : NodeState) (p : Sample) : (handOn st p s).drive.minTripped = s.drive.minTripped := by
  unfold handOn; try dsimp only
  all_goals ((repeat' split) <;> first | rfl | simp)
@[simp] theorem evaluated_drive_minTripped (q : Request) (p : Sample) : (evaluated q p s).drive.minTripped = s.drive.minTripped := by
  unfold evaluated; try dsimp only
  all_goals ((repeat' split) <;> first | rfl | simp)
@[simp] theorem deliver_drive_minTripped (q : Request) (v : Bool) : (deliver q v s).drive.minTripped = s.drive.minTripped := by
  unfold deliver; try dsimp only
  all_goals ((repeat' split) <;> first | rfl | simp)
@[simp] theorem abandonRequest_drive_minTripped : (abandonRequest s).drive.minTripped = s.drive.minTripped := by
  unfold abandonRequest; try dsimp only
  all_goals ((repeat' split) <;> first | rfl | simp)

/-! #### drive.maxTripped -/

@[simp] theorem moveTo_drive_maxTripped (n : NodeState) : (moveTo n s).drive.maxTripped = s.drive.maxTripped := by
  unfold moveTo; try dsimp only
  all_goals ((repeat' split) <;> first | rfl | simp)
@[simp] theorem enterFault_drive_maxTripped (c : Cause) : (enterFault c s).drive.maxTripped = s.drive.maxTripped := by
  unfold enterFault; try dsimp only
  all_goals ((repeat' split) <;> first | rfl | simp)
@[simp] theorem raise_drive_maxTripped (c : Cause) : (raise c s).drive.maxTripped = s.drive.maxTripped := by
  unfold raise; try dsimp only
  all_goals ((repeat' split) <;> first | rfl | simp)
@[simp] theorem raiseTwo_drive_maxTripped (c d : Cause) : (raiseTwo c d s).drive.maxTripped = s.drive.maxTripped := by
  unfold raiseTwo; try dsimp only
  all_goals ((repeat' split) <;> first | rfl | simp)
@[simp] theorem raiseFound_drive_maxTripped (b : Bool) (o : Option Cause) : (raiseFound b o s).drive.maxTripped = s.drive.maxTripped := by
  unfold raiseFound; try dsimp only
  all_goals ((repeat' split) <;> first | rfl | simp)
@[simp] theorem judgeHold_drive_maxTripped : (judgeHold s).drive.maxTripped = s.drive.maxTripped := by
  unfold judgeHold; try dsimp only
  all_goals ((repeat' split) <;> first | rfl | simp)
@[simp] theorem enterParking_drive_maxTripped : (enterParking s).drive.maxTripped = s.drive.maxTripped := by
  unfold enterParking; try dsimp only
  all_goals ((repeat' split) <;> first | rfl | simp)
@[simp] theorem enterEngaged_drive_maxTripped : (enterEngaged s).drive.maxTripped = s.drive.maxTripped := by
  unfold enterEngaged; try dsimp only
  all_goals ((repeat' split) <;> first | rfl | simp)
@[simp] theorem engageOrHold_drive_maxTripped : (engageOrHold s).drive.maxTripped = s.drive.maxTripped := by
  unfold engageOrHold; try dsimp only
  all_goals ((repeat' split) <;> first | rfl | simp)
@[simp] theorem leaveSettling_drive_maxTripped : (leaveSettling s).drive.maxTripped = s.drive.maxTripped := by
  unfold leaveSettling; try dsimp only
  all_goals ((repeat' split) <;> first | rfl | simp)
@[simp] theorem sendCommand_drive_maxTripped (u : Int) : (sendCommand u s).drive.maxTripped = s.drive.maxTripped := by
  unfold sendCommand; try dsimp only
  all_goals ((repeat' split) <;> first | rfl | simp)
@[simp] theorem homeSample_drive_maxTripped : (homeSample s).drive.maxTripped = s.drive.maxTripped := by
  unfold homeSample; try dsimp only
  all_goals ((repeat' split) <;> first | rfl | simp)
@[simp] theorem arrive_drive_maxTripped : (arrive s).drive.maxTripped = s.drive.maxTripped := by
  unfold arrive; try dsimp only
  all_goals ((repeat' split) <;> first | rfl | simp)
@[simp] theorem parkSample_drive_maxTripped (a r : Int) : (parkSample a r s).drive.maxTripped = s.drive.maxTripped := by
  unfold parkSample; try dsimp only
  all_goals ((repeat' split) <;> first | rfl | simp)
@[simp] theorem holdSample_drive_maxTripped : (holdSample s).drive.maxTripped = s.drive.maxTripped := by
  unfold holdSample; try dsimp only
  all_goals ((repeat' split) <;> first | rfl | simp)
@[simp] theorem missReading_drive_maxTripped : (missReading s).drive.maxTripped = s.drive.maxTripped := by
  unfold missReading; try dsimp only
  all_goals ((repeat' split) <;> first | rfl | simp)
@[simp] theorem captureSample_drive_maxTripped (p : Sample) : (captureSample p s).drive.maxTripped = s.drive.maxTripped := by
  unfold captureSample; try dsimp only
  all_goals ((repeat' split) <;> first | rfl | simp)
@[simp] theorem reversalStep_drive_maxTripped : (reversalStep s).drive.maxTripped = s.drive.maxTripped := by
  unfold reversalStep; try dsimp only
  all_goals ((repeat' split) <;> first | rfl | simp)
@[simp] theorem engagedSent_drive_maxTripped (l a u : Int) : (engagedSent l a u s).drive.maxTripped = s.drive.maxTripped := by
  unfold engagedSent; try dsimp only
  all_goals ((repeat' split) <;> first | rfl | simp)
@[simp] theorem engagedSample_drive_maxTripped (a b c : Int) : (engagedSample a b c s).drive.maxTripped = s.drive.maxTripped := by
  unfold engagedSample; try dsimp only
  all_goals ((repeat' split) <;> first | rfl | simp)
@[simp] theorem commandSample_drive_maxTripped (st : NodeState) (a b c : Int) : (commandSample st a b c s).drive.maxTripped = s.drive.maxTripped := by
  unfold commandSample; try dsimp only
  all_goals ((repeat' split) <;> first | rfl | simp)
@[simp] theorem settlingSample_drive_maxTripped (st : NodeState) (p : Sample) : (settlingSample st p s).drive.maxTripped = s.drive.maxTripped := by
  unfold settlingSample; try dsimp only
  all_goals ((repeat' split) <;> first | rfl | simp)
@[simp] theorem correctionSample_drive_maxTripped (st : NodeState) (p : Sample) : (correctionSample st p s).drive.maxTripped = s.drive.maxTripped := by
  unfold correctionSample; try dsimp only
  all_goals ((repeat' split) <;> first | rfl | simp)
@[simp] theorem holdExitStep_drive_maxTripped (st : NodeState) : (holdExitStep st s).drive.maxTripped = s.drive.maxTripped := by
  unfold holdExitStep; try dsimp only
  all_goals ((repeat' split) <;> first | rfl | simp)
@[simp] theorem evaluateFor_drive_maxTripped (t : Time) : (evaluateFor t s).drive.maxTripped = s.drive.maxTripped := by
  unfold evaluateFor; try dsimp only
  all_goals ((repeat' split) <;> first | rfl | simp)
@[simp] theorem upstream_drive_maxTripped (st : NodeState) (p : Sample) : (upstream st p s).drive.maxTripped = s.drive.maxTripped := by
  unfold upstream; try dsimp only
  all_goals ((repeat' split) <;> first | rfl | simp)
@[simp] theorem handOn_drive_maxTripped (st : NodeState) (p : Sample) : (handOn st p s).drive.maxTripped = s.drive.maxTripped := by
  unfold handOn; try dsimp only
  all_goals ((repeat' split) <;> first | rfl | simp)
@[simp] theorem evaluated_drive_maxTripped (q : Request) (p : Sample) : (evaluated q p s).drive.maxTripped = s.drive.maxTripped := by
  unfold evaluated; try dsimp only
  all_goals ((repeat' split) <;> first | rfl | simp)
@[simp] theorem deliver_drive_maxTripped (q : Request) (v : Bool) : (deliver q v s).drive.maxTripped = s.drive.maxTripped := by
  unfold deliver; try dsimp only
  all_goals ((repeat' split) <;> first | rfl | simp)
@[simp] theorem abandonRequest_drive_maxTripped : (abandonRequest s).drive.maxTripped = s.drive.maxTripped := by
  unfold abandonRequest; try dsimp only
  all_goals ((repeat' split) <;> first | rfl | simp)

/-! #### drive.driveFault -/

@[simp] theorem moveTo_drive_driveFault (n : NodeState) : (moveTo n s).drive.driveFault = s.drive.driveFault := by
  unfold moveTo; try dsimp only
  all_goals ((repeat' split) <;> first | rfl | simp)
@[simp] theorem enterFault_drive_driveFault (c : Cause) : (enterFault c s).drive.driveFault = s.drive.driveFault := by
  unfold enterFault; try dsimp only
  all_goals ((repeat' split) <;> first | rfl | simp)
@[simp] theorem raise_drive_driveFault (c : Cause) : (raise c s).drive.driveFault = s.drive.driveFault := by
  unfold raise; try dsimp only
  all_goals ((repeat' split) <;> first | rfl | simp)
@[simp] theorem raiseTwo_drive_driveFault (c d : Cause) : (raiseTwo c d s).drive.driveFault = s.drive.driveFault := by
  unfold raiseTwo; try dsimp only
  all_goals ((repeat' split) <;> first | rfl | simp)
@[simp] theorem raiseFound_drive_driveFault (b : Bool) (o : Option Cause) : (raiseFound b o s).drive.driveFault = s.drive.driveFault := by
  unfold raiseFound; try dsimp only
  all_goals ((repeat' split) <;> first | rfl | simp)
@[simp] theorem judgeHold_drive_driveFault : (judgeHold s).drive.driveFault = s.drive.driveFault := by
  unfold judgeHold; try dsimp only
  all_goals ((repeat' split) <;> first | rfl | simp)
@[simp] theorem enterParking_drive_driveFault : (enterParking s).drive.driveFault = s.drive.driveFault := by
  unfold enterParking; try dsimp only
  all_goals ((repeat' split) <;> first | rfl | simp)
@[simp] theorem enterEngaged_drive_driveFault : (enterEngaged s).drive.driveFault = s.drive.driveFault := by
  unfold enterEngaged; try dsimp only
  all_goals ((repeat' split) <;> first | rfl | simp)
@[simp] theorem engageOrHold_drive_driveFault : (engageOrHold s).drive.driveFault = s.drive.driveFault := by
  unfold engageOrHold; try dsimp only
  all_goals ((repeat' split) <;> first | rfl | simp)
@[simp] theorem leaveSettling_drive_driveFault : (leaveSettling s).drive.driveFault = s.drive.driveFault := by
  unfold leaveSettling; try dsimp only
  all_goals ((repeat' split) <;> first | rfl | simp)
@[simp] theorem sendCommand_drive_driveFault (u : Int) : (sendCommand u s).drive.driveFault = s.drive.driveFault := by
  unfold sendCommand; try dsimp only
  all_goals ((repeat' split) <;> first | rfl | simp)
@[simp] theorem homeSample_drive_driveFault : (homeSample s).drive.driveFault = s.drive.driveFault := by
  unfold homeSample; try dsimp only
  all_goals ((repeat' split) <;> first | rfl | simp)
@[simp] theorem arrive_drive_driveFault : (arrive s).drive.driveFault = s.drive.driveFault := by
  unfold arrive; try dsimp only
  all_goals ((repeat' split) <;> first | rfl | simp)
@[simp] theorem parkSample_drive_driveFault (a r : Int) : (parkSample a r s).drive.driveFault = s.drive.driveFault := by
  unfold parkSample; try dsimp only
  all_goals ((repeat' split) <;> first | rfl | simp)
@[simp] theorem holdSample_drive_driveFault : (holdSample s).drive.driveFault = s.drive.driveFault := by
  unfold holdSample; try dsimp only
  all_goals ((repeat' split) <;> first | rfl | simp)
@[simp] theorem missReading_drive_driveFault : (missReading s).drive.driveFault = s.drive.driveFault := by
  unfold missReading; try dsimp only
  all_goals ((repeat' split) <;> first | rfl | simp)
@[simp] theorem captureSample_drive_driveFault (p : Sample) : (captureSample p s).drive.driveFault = s.drive.driveFault := by
  unfold captureSample; try dsimp only
  all_goals ((repeat' split) <;> first | rfl | simp)
@[simp] theorem reversalStep_drive_driveFault : (reversalStep s).drive.driveFault = s.drive.driveFault := by
  unfold reversalStep; try dsimp only
  all_goals ((repeat' split) <;> first | rfl | simp)
@[simp] theorem engagedSent_drive_driveFault (l a u : Int) : (engagedSent l a u s).drive.driveFault = s.drive.driveFault := by
  unfold engagedSent; try dsimp only
  all_goals ((repeat' split) <;> first | rfl | simp)
@[simp] theorem engagedSample_drive_driveFault (a b c : Int) : (engagedSample a b c s).drive.driveFault = s.drive.driveFault := by
  unfold engagedSample; try dsimp only
  all_goals ((repeat' split) <;> first | rfl | simp)
@[simp] theorem commandSample_drive_driveFault (st : NodeState) (a b c : Int) : (commandSample st a b c s).drive.driveFault = s.drive.driveFault := by
  unfold commandSample; try dsimp only
  all_goals ((repeat' split) <;> first | rfl | simp)
@[simp] theorem settlingSample_drive_driveFault (st : NodeState) (p : Sample) : (settlingSample st p s).drive.driveFault = s.drive.driveFault := by
  unfold settlingSample; try dsimp only
  all_goals ((repeat' split) <;> first | rfl | simp)
@[simp] theorem correctionSample_drive_driveFault (st : NodeState) (p : Sample) : (correctionSample st p s).drive.driveFault = s.drive.driveFault := by
  unfold correctionSample; try dsimp only
  all_goals ((repeat' split) <;> first | rfl | simp)
@[simp] theorem holdExitStep_drive_driveFault (st : NodeState) : (holdExitStep st s).drive.driveFault = s.drive.driveFault := by
  unfold holdExitStep; try dsimp only
  all_goals ((repeat' split) <;> first | rfl | simp)
@[simp] theorem evaluateFor_drive_driveFault (t : Time) : (evaluateFor t s).drive.driveFault = s.drive.driveFault := by
  unfold evaluateFor; try dsimp only
  all_goals ((repeat' split) <;> first | rfl | simp)
@[simp] theorem upstream_drive_driveFault (st : NodeState) (p : Sample) : (upstream st p s).drive.driveFault = s.drive.driveFault := by
  unfold upstream; try dsimp only
  all_goals ((repeat' split) <;> first | rfl | simp)
@[simp] theorem handOn_drive_driveFault (st : NodeState) (p : Sample) : (handOn st p s).drive.driveFault = s.drive.driveFault := by
  unfold handOn; try dsimp only
  all_goals ((repeat' split) <;> first | rfl | simp)
@[simp] theorem evaluated_drive_driveFault (q : Request) (p : Sample) : (evaluated q p s).drive.driveFault = s.drive.driveFault := by
  unfold evaluated; try dsimp only
  all_goals ((repeat' split) <;> first | rfl | simp)
@[simp] theorem deliver_drive_driveFault (q : Request) (v : Bool) : (deliver q v s).drive.driveFault = s.drive.driveFault := by
  unfold deliver; try dsimp only
  all_goals ((repeat' split) <;> first | rfl | simp)
@[simp] theorem abandonRequest_drive_driveFault : (abandonRequest s).drive.driveFault = s.drive.driveFault := by
  unfold abandonRequest; try dsimp only
  all_goals ((repeat' split) <;> first | rfl | simp)

/-! #### gains.pending -/

@[simp] theorem moveTo_gains_pending (n : NodeState) : (moveTo n s).gains.pending = s.gains.pending := by
  unfold moveTo; try dsimp only
  all_goals ((repeat' split) <;> first | rfl | simp)
@[simp] theorem enterFault_gains_pending (c : Cause) : (enterFault c s).gains.pending = s.gains.pending := by
  unfold enterFault; try dsimp only
  all_goals ((repeat' split) <;> first | rfl | simp)
@[simp] theorem raise_gains_pending (c : Cause) : (raise c s).gains.pending = s.gains.pending := by
  unfold raise; try dsimp only
  all_goals ((repeat' split) <;> first | rfl | simp)
@[simp] theorem raiseTwo_gains_pending (c d : Cause) : (raiseTwo c d s).gains.pending = s.gains.pending := by
  unfold raiseTwo; try dsimp only
  all_goals ((repeat' split) <;> first | rfl | simp)
@[simp] theorem raiseFound_gains_pending (b : Bool) (o : Option Cause) : (raiseFound b o s).gains.pending = s.gains.pending := by
  unfold raiseFound; try dsimp only
  all_goals ((repeat' split) <;> first | rfl | simp)
@[simp] theorem judgeHold_gains_pending : (judgeHold s).gains.pending = s.gains.pending := by
  unfold judgeHold; try dsimp only
  all_goals ((repeat' split) <;> first | rfl | simp)
@[simp] theorem enterParking_gains_pending : (enterParking s).gains.pending = s.gains.pending := by
  unfold enterParking; try dsimp only
  all_goals ((repeat' split) <;> first | rfl | simp)
@[simp] theorem enterEngaged_gains_pending : (enterEngaged s).gains.pending = s.gains.pending := by
  unfold enterEngaged; try dsimp only
  all_goals ((repeat' split) <;> first | rfl | simp)
@[simp] theorem engageOrHold_gains_pending : (engageOrHold s).gains.pending = s.gains.pending := by
  unfold engageOrHold; try dsimp only
  all_goals ((repeat' split) <;> first | rfl | simp)
@[simp] theorem leaveSettling_gains_pending : (leaveSettling s).gains.pending = s.gains.pending := by
  unfold leaveSettling; try dsimp only
  all_goals ((repeat' split) <;> first | rfl | simp)
@[simp] theorem pageChange_gains_pending (p : PageNo) : (pageChange p s).gains.pending = s.gains.pending := by
  unfold pageChange; try dsimp only
  all_goals ((repeat' split) <;> first | rfl | simp)
@[simp] theorem resolveInUse_gains_pending (r : Regime) : (resolveInUse r s).gains.pending = s.gains.pending := by
  unfold resolveInUse; try dsimp only
  all_goals ((repeat' split) <;> first | rfl | simp)
@[simp] theorem switchRegime_gains_pending (r : Regime) : (switchRegime r s).gains.pending = s.gains.pending := by
  unfold switchRegime; try dsimp only
  all_goals ((repeat' split) <;> first | rfl | simp)
@[simp] theorem homeSample_gains_pending : (homeSample s).gains.pending = s.gains.pending := by
  unfold homeSample; try dsimp only
  all_goals ((repeat' split) <;> first | rfl | simp)
@[simp] theorem arrive_gains_pending : (arrive s).gains.pending = s.gains.pending := by
  unfold arrive; try dsimp only
  all_goals ((repeat' split) <;> first | rfl | simp)
@[simp] theorem parkSample_gains_pending (a r : Int) : (parkSample a r s).gains.pending = s.gains.pending := by
  unfold parkSample; try dsimp only
  all_goals ((repeat' split) <;> first | rfl | simp)
@[simp] theorem holdSample_gains_pending : (holdSample s).gains.pending = s.gains.pending := by
  unfold holdSample; try dsimp only
  all_goals ((repeat' split) <;> first | rfl | simp)
@[simp] theorem missReading_gains_pending : (missReading s).gains.pending = s.gains.pending := by
  unfold missReading; try dsimp only
  all_goals ((repeat' split) <;> first | rfl | simp)
@[simp] theorem captureSample_gains_pending (p : Sample) : (captureSample p s).gains.pending = s.gains.pending := by
  unfold captureSample; try dsimp only
  all_goals ((repeat' split) <;> first | rfl | simp)
@[simp] theorem testEffect_gains_pending (t : Time) : (testEffect t s).gains.pending = s.gains.pending := by
  unfold testEffect; try dsimp only
  all_goals ((repeat' split) <;> first | rfl | simp)
@[simp] theorem regimeStep_gains_pending (st : NodeState) (t : Time) : (regimeStep st t s).gains.pending = s.gains.pending := by
  unfold regimeStep; try dsimp only
  all_goals ((repeat' split) <;> first | rfl | simp)
@[simp] theorem vehicleSample_gains_pending (st : NodeState) (p : Sample) : (vehicleSample st p s).gains.pending = s.gains.pending := by
  unfold vehicleSample; try dsimp only
  all_goals ((repeat' split) <;> first | rfl | simp)
@[simp] theorem aimSample_gains_pending (st : NodeState) (t : Time) : (aimSample st t s).2.gains.pending = s.gains.pending := by
  unfold aimSample; try dsimp only
  all_goals ((repeat' split) <;> first | rfl | simp)
@[simp] theorem reversalStep_gains_pending : (reversalStep s).gains.pending = s.gains.pending := by
  unfold reversalStep; try dsimp only
  all_goals ((repeat' split) <;> first | rfl | simp)
@[simp] theorem engagedSent_gains_pending (l a u : Int) : (engagedSent l a u s).gains.pending = s.gains.pending := by
  unfold engagedSent; try dsimp only
  all_goals ((repeat' split) <;> first | rfl | simp)
@[simp] theorem engagedSample_gains_pending (a b c : Int) : (engagedSample a b c s).gains.pending = s.gains.pending := by
  unfold engagedSample; try dsimp only
  all_goals ((repeat' split) <;> first | rfl | simp)
@[simp] theorem commandSample_gains_pending (st : NodeState) (a b c : Int) : (commandSample st a b c s).gains.pending = s.gains.pending := by
  unfold commandSample; try dsimp only
  all_goals ((repeat' split) <;> first | rfl | simp)
@[simp] theorem settlingSample_gains_pending (st : NodeState) (p : Sample) : (settlingSample st p s).gains.pending = s.gains.pending := by
  unfold settlingSample; try dsimp only
  all_goals ((repeat' split) <;> first | rfl | simp)
@[simp] theorem correctionSample_gains_pending (st : NodeState) (p : Sample) : (correctionSample st p s).gains.pending = s.gains.pending := by
  unfold correctionSample; try dsimp only
  all_goals ((repeat' split) <;> first | rfl | simp)
@[simp] theorem holdExitStep_gains_pending (st : NodeState) : (holdExitStep st s).gains.pending = s.gains.pending := by
  unfold holdExitStep; try dsimp only
  all_goals ((repeat' split) <;> first | rfl | simp)
@[simp] theorem evaluateFor_gains_pending (t : Time) : (evaluateFor t s).gains.pending = s.gains.pending := by
  unfold evaluateFor; try dsimp only
  all_goals ((repeat' split) <;> first | rfl | simp)
@[simp] theorem evaluated_gains_pending (q : Request) (p : Sample) : (evaluated q p s).gains.pending = s.gains.pending := by
  unfold evaluated; try dsimp only
  all_goals ((repeat' split) <;> first | rfl | simp)

/-! #### corr.loss -/

@[simp] theorem moveTo_corr_loss (n : NodeState) : (moveTo n s).corr.loss = s.corr.loss := by
  unfold moveTo; try dsimp only
  all_goals ((repeat' split) <;> first | rfl | simp)
@[simp] theorem enterFault_corr_loss (c : Cause) : (enterFault c s).corr.loss = s.corr.loss := by
  unfold enterFault; try dsimp only
  all_goals ((repeat' split) <;> first | rfl | simp)
@[simp] theorem raise_corr_loss (c : Cause) : (raise c s).corr.loss = s.corr.loss := by
  unfold raise; try dsimp only
  all_goals ((repeat' split) <;> first | rfl | simp)
@[simp] theorem raiseTwo_corr_loss (c d : Cause) : (raiseTwo c d s).corr.loss = s.corr.loss := by
  unfold raiseTwo; try dsimp only
  all_goals ((repeat' split) <;> first | rfl | simp)
@[simp] theorem raiseFound_corr_loss (b : Bool) (o : Option Cause) : (raiseFound b o s).corr.loss = s.corr.loss := by
  unfold raiseFound; try dsimp only
  all_goals ((repeat' split) <;> first | rfl | simp)
@[simp] theorem judgeHold_corr_loss : (judgeHold s).corr.loss = s.corr.loss := by
  unfold judgeHold; try dsimp only
  all_goals ((repeat' split) <;> first | rfl | simp)
@[simp] theorem enterParking_corr_loss : (enterParking s).corr.loss = s.corr.loss := by
  unfold enterParking; try dsimp only
  all_goals ((repeat' split) <;> first | rfl | simp)
@[simp] theorem enterEngaged_corr_loss : (enterEngaged s).corr.loss = s.corr.loss := by
  unfold enterEngaged; try dsimp only
  all_goals ((repeat' split) <;> first | rfl | simp)
@[simp] theorem engageOrHold_corr_loss : (engageOrHold s).corr.loss = s.corr.loss := by
  unfold engageOrHold; try dsimp only
  all_goals ((repeat' split) <;> first | rfl | simp)
@[simp] theorem leaveSettling_corr_loss : (leaveSettling s).corr.loss = s.corr.loss := by
  unfold leaveSettling; try dsimp only
  all_goals ((repeat' split) <;> first | rfl | simp)
@[simp] theorem pageChange_corr_loss (p : PageNo) : (pageChange p s).corr.loss = s.corr.loss := by
  unfold pageChange; try dsimp only
  all_goals ((repeat' split) <;> first | rfl | simp)
@[simp] theorem resolveInUse_corr_loss (r : Regime) : (resolveInUse r s).corr.loss = s.corr.loss := by
  unfold resolveInUse; try dsimp only
  all_goals ((repeat' split) <;> first | rfl | simp)
@[simp] theorem switchRegime_corr_loss (r : Regime) : (switchRegime r s).corr.loss = s.corr.loss := by
  unfold switchRegime; try dsimp only
  all_goals ((repeat' split) <;> first | rfl | simp)
@[simp] theorem testLocalPending_corr_loss (t : Time) : (testLocalPending t s).corr.loss = s.corr.loss := by
  unfold testLocalPending; try dsimp only
  all_goals ((repeat' split) <;> first | rfl | simp)
@[simp] theorem homeSample_corr_loss : (homeSample s).corr.loss = s.corr.loss := by
  unfold homeSample; try dsimp only
  all_goals ((repeat' split) <;> first | rfl | simp)
@[simp] theorem arrive_corr_loss : (arrive s).corr.loss = s.corr.loss := by
  unfold arrive; try dsimp only
  all_goals ((repeat' split) <;> first | rfl | simp)
@[simp] theorem parkSample_corr_loss (a r : Int) : (parkSample a r s).corr.loss = s.corr.loss := by
  unfold parkSample; try dsimp only
  all_goals ((repeat' split) <;> first | rfl | simp)
@[simp] theorem holdSample_corr_loss : (holdSample s).corr.loss = s.corr.loss := by
  unfold holdSample; try dsimp only
  all_goals ((repeat' split) <;> first | rfl | simp)
@[simp] theorem missReading_corr_loss : (missReading s).corr.loss = s.corr.loss := by
  unfold missReading; try dsimp only
  all_goals ((repeat' split) <;> first | rfl | simp)
@[simp] theorem captureSample_corr_loss (p : Sample) : (captureSample p s).corr.loss = s.corr.loss := by
  unfold captureSample; try dsimp only
  all_goals ((repeat' split) <;> first | rfl | simp)
@[simp] theorem testEffect_corr_loss (t : Time) : (testEffect t s).corr.loss = s.corr.loss := by
  unfold testEffect; try dsimp only
  all_goals ((repeat' split) <;> first | rfl | simp)
@[simp] theorem regimeStep_corr_loss (st : NodeState) (t : Time) : (regimeStep st t s).corr.loss = s.corr.loss := by
  unfold regimeStep; try dsimp only
  all_goals ((repeat' split) <;> first | rfl | simp)
@[simp] theorem vehicleSample_corr_loss (st : NodeState) (p : Sample) : (vehicleSample st p s).corr.loss = s.corr.loss := by
  unfold vehicleSample; try dsimp only
  all_goals ((repeat' split) <;> first | rfl | simp)
@[simp] theorem takeAim_corr_loss : (takeAim s).corr.loss = s.corr.loss := by
  unfold takeAim; try dsimp only
  all_goals ((repeat' split) <;> first | rfl | simp)
@[simp] theorem reversalStep_corr_loss : (reversalStep s).corr.loss = s.corr.loss := by
  unfold reversalStep; try dsimp only
  all_goals ((repeat' split) <;> first | rfl | simp)
@[simp] theorem engagedSent_corr_loss (l a u : Int) : (engagedSent l a u s).corr.loss = s.corr.loss := by
  unfold engagedSent; try dsimp only
  all_goals ((repeat' split) <;> first | rfl | simp)
@[simp] theorem engagedSample_corr_loss (a b c : Int) : (engagedSample a b c s).corr.loss = s.corr.loss := by
  unfold engagedSample; try dsimp only
  all_goals ((repeat' split) <;> first | rfl | simp)
@[simp] theorem commandSample_corr_loss (st : NodeState) (a b c : Int) : (commandSample st a b c s).corr.loss = s.corr.loss := by
  unfold commandSample; try dsimp only
  all_goals ((repeat' split) <;> first | rfl | simp)
@[simp] theorem holdExitStep_corr_loss (st : NodeState) : (holdExitStep st s).corr.loss = s.corr.loss := by
  unfold holdExitStep; try dsimp only
  all_goals ((repeat' split) <;> first | rfl | simp)
@[simp] theorem evaluateFor_corr_loss (t : Time) : (evaluateFor t s).corr.loss = s.corr.loss := by
  unfold evaluateFor; try dsimp only
  all_goals ((repeat' split) <;> first | rfl | simp)
@[simp] theorem peerJointSample_corr_loss (st : NodeState) (t : Time) : (peerJointSample st t s).corr.loss = s.corr.loss := by
  unfold peerJointSample; try dsimp only
  all_goals ((repeat' split) <;> first | rfl | simp)
@[simp] theorem settlingSample_corr_loss (st : NodeState) (p : Sample) : (settlingSample st p s).corr.loss = s.corr.loss := by
  unfold settlingSample; try dsimp only
  all_goals ((repeat' split) <;> first | rfl | simp)
@[simp] theorem upstream_corr_loss (st : NodeState) (p : Sample) : (upstream st p s).corr.loss = s.corr.loss := by
  unfold upstream; try dsimp only
  all_goals ((repeat' split) <;> first | rfl | simp)
@[simp] theorem evaluated_corr_loss (q : Request) (p : Sample) : (evaluated q p s).corr.loss = s.corr.loss := by
  unfold evaluated; try dsimp only
  all_goals ((repeat' split) <;> first | rfl | simp)

/-! #### corr.reacquire -/

@[simp] theorem moveTo_corr_reacquire (n : NodeState) : (moveTo n s).corr.reacquire = s.corr.reacquire := by
  unfold moveTo; try dsimp only
  all_goals ((repeat' split) <;> first | rfl | simp)
@[simp] theorem enterFault_corr_reacquire (c : Cause) : (enterFault c s).corr.reacquire = s.corr.reacquire := by
  unfold enterFault; try dsimp only
  all_goals ((repeat' split) <;> first | rfl | simp)
@[simp] theorem raise_corr_reacquire (c : Cause) : (raise c s).corr.reacquire = s.corr.reacquire := by
  unfold raise; try dsimp only
  all_goals ((repeat' split) <;> first | rfl | simp)
@[simp] theorem raiseTwo_corr_reacquire (c d : Cause) : (raiseTwo c d s).corr.reacquire = s.corr.reacquire := by
  unfold raiseTwo; try dsimp only
  all_goals ((repeat' split) <;> first | rfl | simp)
@[simp] theorem raiseFound_corr_reacquire (b : Bool) (o : Option Cause) : (raiseFound b o s).corr.reacquire = s.corr.reacquire := by
  unfold raiseFound; try dsimp only
  all_goals ((repeat' split) <;> first | rfl | simp)
@[simp] theorem judgeHold_corr_reacquire : (judgeHold s).corr.reacquire = s.corr.reacquire := by
  unfold judgeHold; try dsimp only
  all_goals ((repeat' split) <;> first | rfl | simp)
@[simp] theorem enterParking_corr_reacquire : (enterParking s).corr.reacquire = s.corr.reacquire := by
  unfold enterParking; try dsimp only
  all_goals ((repeat' split) <;> first | rfl | simp)
@[simp] theorem enterEngaged_corr_reacquire : (enterEngaged s).corr.reacquire = s.corr.reacquire := by
  unfold enterEngaged; try dsimp only
  all_goals ((repeat' split) <;> first | rfl | simp)
@[simp] theorem engageOrHold_corr_reacquire : (engageOrHold s).corr.reacquire = s.corr.reacquire := by
  unfold engageOrHold; try dsimp only
  all_goals ((repeat' split) <;> first | rfl | simp)
@[simp] theorem leaveSettling_corr_reacquire : (leaveSettling s).corr.reacquire = s.corr.reacquire := by
  unfold leaveSettling; try dsimp only
  all_goals ((repeat' split) <;> first | rfl | simp)
@[simp] theorem pageChange_corr_reacquire (p : PageNo) : (pageChange p s).corr.reacquire = s.corr.reacquire := by
  unfold pageChange; try dsimp only
  all_goals ((repeat' split) <;> first | rfl | simp)
@[simp] theorem resolveInUse_corr_reacquire (r : Regime) : (resolveInUse r s).corr.reacquire = s.corr.reacquire := by
  unfold resolveInUse; try dsimp only
  all_goals ((repeat' split) <;> first | rfl | simp)
@[simp] theorem switchRegime_corr_reacquire (r : Regime) : (switchRegime r s).corr.reacquire = s.corr.reacquire := by
  unfold switchRegime; try dsimp only
  all_goals ((repeat' split) <;> first | rfl | simp)
@[simp] theorem testLocalPending_corr_reacquire (t : Time) : (testLocalPending t s).corr.reacquire = s.corr.reacquire := by
  unfold testLocalPending; try dsimp only
  all_goals ((repeat' split) <;> first | rfl | simp)
@[simp] theorem homeSample_corr_reacquire : (homeSample s).corr.reacquire = s.corr.reacquire := by
  unfold homeSample; try dsimp only
  all_goals ((repeat' split) <;> first | rfl | simp)
@[simp] theorem arrive_corr_reacquire : (arrive s).corr.reacquire = s.corr.reacquire := by
  unfold arrive; try dsimp only
  all_goals ((repeat' split) <;> first | rfl | simp)
@[simp] theorem parkSample_corr_reacquire (a r : Int) : (parkSample a r s).corr.reacquire = s.corr.reacquire := by
  unfold parkSample; try dsimp only
  all_goals ((repeat' split) <;> first | rfl | simp)
@[simp] theorem holdSample_corr_reacquire : (holdSample s).corr.reacquire = s.corr.reacquire := by
  unfold holdSample; try dsimp only
  all_goals ((repeat' split) <;> first | rfl | simp)
@[simp] theorem missReading_corr_reacquire : (missReading s).corr.reacquire = s.corr.reacquire := by
  unfold missReading; try dsimp only
  all_goals ((repeat' split) <;> first | rfl | simp)
@[simp] theorem captureSample_corr_reacquire (p : Sample) : (captureSample p s).corr.reacquire = s.corr.reacquire := by
  unfold captureSample; try dsimp only
  all_goals ((repeat' split) <;> first | rfl | simp)
@[simp] theorem testEffect_corr_reacquire (t : Time) : (testEffect t s).corr.reacquire = s.corr.reacquire := by
  unfold testEffect; try dsimp only
  all_goals ((repeat' split) <;> first | rfl | simp)
@[simp] theorem regimeStep_corr_reacquire (st : NodeState) (t : Time) : (regimeStep st t s).corr.reacquire = s.corr.reacquire := by
  unfold regimeStep; try dsimp only
  all_goals ((repeat' split) <;> first | rfl | simp)
@[simp] theorem vehicleSample_corr_reacquire (st : NodeState) (p : Sample) : (vehicleSample st p s).corr.reacquire = s.corr.reacquire := by
  unfold vehicleSample; try dsimp only
  all_goals ((repeat' split) <;> first | rfl | simp)
@[simp] theorem takeAim_corr_reacquire : (takeAim s).corr.reacquire = s.corr.reacquire := by
  unfold takeAim; try dsimp only
  all_goals ((repeat' split) <;> first | rfl | simp)
@[simp] theorem reversalStep_corr_reacquire : (reversalStep s).corr.reacquire = s.corr.reacquire := by
  unfold reversalStep; try dsimp only
  all_goals ((repeat' split) <;> first | rfl | simp)
@[simp] theorem engagedSent_corr_reacquire (l a u : Int) : (engagedSent l a u s).corr.reacquire = s.corr.reacquire := by
  unfold engagedSent; try dsimp only
  all_goals ((repeat' split) <;> first | rfl | simp)
@[simp] theorem engagedSample_corr_reacquire (a b c : Int) : (engagedSample a b c s).corr.reacquire = s.corr.reacquire := by
  unfold engagedSample; try dsimp only
  all_goals ((repeat' split) <;> first | rfl | simp)
@[simp] theorem commandSample_corr_reacquire (st : NodeState) (a b c : Int) : (commandSample st a b c s).corr.reacquire = s.corr.reacquire := by
  unfold commandSample; try dsimp only
  all_goals ((repeat' split) <;> first | rfl | simp)
@[simp] theorem holdExitStep_corr_reacquire (st : NodeState) : (holdExitStep st s).corr.reacquire = s.corr.reacquire := by
  unfold holdExitStep; try dsimp only
  all_goals ((repeat' split) <;> first | rfl | simp)
@[simp] theorem evaluateFor_corr_reacquire (t : Time) : (evaluateFor t s).corr.reacquire = s.corr.reacquire := by
  unfold evaluateFor; try dsimp only
  all_goals ((repeat' split) <;> first | rfl | simp)
@[simp] theorem peerJointSample_corr_reacquire (st : NodeState) (t : Time) : (peerJointSample st t s).corr.reacquire = s.corr.reacquire := by
  unfold peerJointSample; try dsimp only
  all_goals ((repeat' split) <;> first | rfl | simp)
@[simp] theorem settlingSample_corr_reacquire (st : NodeState) (p : Sample) : (settlingSample st p s).corr.reacquire = s.corr.reacquire := by
  unfold settlingSample; try dsimp only
  all_goals ((repeat' split) <;> first | rfl | simp)
@[simp] theorem upstream_corr_reacquire (st : NodeState) (p : Sample) : (upstream st p s).corr.reacquire = s.corr.reacquire := by
  unfold upstream; try dsimp only
  all_goals ((repeat' split) <;> first | rfl | simp)
@[simp] theorem evaluated_corr_reacquire (q : Request) (p : Sample) : (evaluated q p s).corr.reacquire = s.corr.reacquire := by
  unfold evaluated; try dsimp only
  all_goals ((repeat' split) <;> first | rfl | simp)

/-! #### corr.offset -/

@[simp] theorem moveTo_corr_offset (n : NodeState) : (moveTo n s).corr.offset = s.corr.offset := by
  unfold moveTo; try dsimp only
  all_goals ((repeat' split) <;> first | rfl | simp)
@[simp] theorem enterFault_corr_offset (c : Cause) : (enterFault c s).corr.offset = s.corr.offset := by
  unfold enterFault; try dsimp only
  all_goals ((repeat' split) <;> first | rfl | simp)
@[simp] theorem raise_corr_offset (c : Cause) : (raise c s).corr.offset = s.corr.offset := by
  unfold raise; try dsimp only
  all_goals ((repeat' split) <;> first | rfl | simp)
@[simp] theorem raiseTwo_corr_offset (c d : Cause) : (raiseTwo c d s).corr.offset = s.corr.offset := by
  unfold raiseTwo; try dsimp only
  all_goals ((repeat' split) <;> first | rfl | simp)
@[simp] theorem raiseFound_corr_offset (b : Bool) (o : Option Cause) : (raiseFound b o s).corr.offset = s.corr.offset := by
  unfold raiseFound; try dsimp only
  all_goals ((repeat' split) <;> first | rfl | simp)
@[simp] theorem judgeHold_corr_offset : (judgeHold s).corr.offset = s.corr.offset := by
  unfold judgeHold; try dsimp only
  all_goals ((repeat' split) <;> first | rfl | simp)
@[simp] theorem enterParking_corr_offset : (enterParking s).corr.offset = s.corr.offset := by
  unfold enterParking; try dsimp only
  all_goals ((repeat' split) <;> first | rfl | simp)
@[simp] theorem enterEngaged_corr_offset : (enterEngaged s).corr.offset = s.corr.offset := by
  unfold enterEngaged; try dsimp only
  all_goals ((repeat' split) <;> first | rfl | simp)
@[simp] theorem engageOrHold_corr_offset : (engageOrHold s).corr.offset = s.corr.offset := by
  unfold engageOrHold; try dsimp only
  all_goals ((repeat' split) <;> first | rfl | simp)
@[simp] theorem leaveSettling_corr_offset : (leaveSettling s).corr.offset = s.corr.offset := by
  unfold leaveSettling; try dsimp only
  all_goals ((repeat' split) <;> first | rfl | simp)
@[simp] theorem pageChange_corr_offset (p : PageNo) : (pageChange p s).corr.offset = s.corr.offset := by
  unfold pageChange; try dsimp only
  all_goals ((repeat' split) <;> first | rfl | simp)
@[simp] theorem resolveInUse_corr_offset (r : Regime) : (resolveInUse r s).corr.offset = s.corr.offset := by
  unfold resolveInUse; try dsimp only
  all_goals ((repeat' split) <;> first | rfl | simp)
@[simp] theorem switchRegime_corr_offset (r : Regime) : (switchRegime r s).corr.offset = s.corr.offset := by
  unfold switchRegime; try dsimp only
  all_goals ((repeat' split) <;> first | rfl | simp)
@[simp] theorem testLocalPending_corr_offset (t : Time) : (testLocalPending t s).corr.offset = s.corr.offset := by
  unfold testLocalPending; try dsimp only
  all_goals ((repeat' split) <;> first | rfl | simp)
@[simp] theorem homeSample_corr_offset : (homeSample s).corr.offset = s.corr.offset := by
  unfold homeSample; try dsimp only
  all_goals ((repeat' split) <;> first | rfl | simp)
@[simp] theorem arrive_corr_offset : (arrive s).corr.offset = s.corr.offset := by
  unfold arrive; try dsimp only
  all_goals ((repeat' split) <;> first | rfl | simp)
@[simp] theorem parkSample_corr_offset (a r : Int) : (parkSample a r s).corr.offset = s.corr.offset := by
  unfold parkSample; try dsimp only
  all_goals ((repeat' split) <;> first | rfl | simp)
@[simp] theorem holdSample_corr_offset : (holdSample s).corr.offset = s.corr.offset := by
  unfold holdSample; try dsimp only
  all_goals ((repeat' split) <;> first | rfl | simp)
@[simp] theorem missReading_corr_offset : (missReading s).corr.offset = s.corr.offset := by
  unfold missReading; try dsimp only
  all_goals ((repeat' split) <;> first | rfl | simp)
@[simp] theorem captureSample_corr_offset (p : Sample) : (captureSample p s).corr.offset = s.corr.offset := by
  unfold captureSample; try dsimp only
  all_goals ((repeat' split) <;> first | rfl | simp)
@[simp] theorem testEffect_corr_offset (t : Time) : (testEffect t s).corr.offset = s.corr.offset := by
  unfold testEffect; try dsimp only
  all_goals ((repeat' split) <;> first | rfl | simp)
@[simp] theorem regimeStep_corr_offset (st : NodeState) (t : Time) : (regimeStep st t s).corr.offset = s.corr.offset := by
  unfold regimeStep; try dsimp only
  all_goals ((repeat' split) <;> first | rfl | simp)
@[simp] theorem vehicleSample_corr_offset (st : NodeState) (p : Sample) : (vehicleSample st p s).corr.offset = s.corr.offset := by
  unfold vehicleSample; try dsimp only
  all_goals ((repeat' split) <;> first | rfl | simp)
@[simp] theorem takeAim_corr_offset : (takeAim s).corr.offset = s.corr.offset := by
  unfold takeAim; try dsimp only
  all_goals ((repeat' split) <;> first | rfl | simp)
@[simp] theorem reversalStep_corr_offset : (reversalStep s).corr.offset = s.corr.offset := by
  unfold reversalStep; try dsimp only
  all_goals ((repeat' split) <;> first | rfl | simp)
@[simp] theorem engagedSent_corr_offset (l a u : Int) : (engagedSent l a u s).corr.offset = s.corr.offset := by
  unfold engagedSent; try dsimp only
  all_goals ((repeat' split) <;> first | rfl | simp)
@[simp] theorem engagedSample_corr_offset (a b c : Int) : (engagedSample a b c s).corr.offset = s.corr.offset := by
  unfold engagedSample; try dsimp only
  all_goals ((repeat' split) <;> first | rfl | simp)
@[simp] theorem commandSample_corr_offset (st : NodeState) (a b c : Int) : (commandSample st a b c s).corr.offset = s.corr.offset := by
  unfold commandSample; try dsimp only
  all_goals ((repeat' split) <;> first | rfl | simp)
@[simp] theorem holdExitStep_corr_offset (st : NodeState) : (holdExitStep st s).corr.offset = s.corr.offset := by
  unfold holdExitStep; try dsimp only
  all_goals ((repeat' split) <;> first | rfl | simp)
@[simp] theorem evaluateFor_corr_offset (t : Time) : (evaluateFor t s).corr.offset = s.corr.offset := by
  unfold evaluateFor; try dsimp only
  all_goals ((repeat' split) <;> first | rfl | simp)
@[simp] theorem peerJointSample_corr_offset (st : NodeState) (t : Time) : (peerJointSample st t s).corr.offset = s.corr.offset := by
  unfold peerJointSample; try dsimp only
  all_goals ((repeat' split) <;> first | rfl | simp)
@[simp] theorem settlingSample_corr_offset (st : NodeState) (p : Sample) : (settlingSample st p s).corr.offset = s.corr.offset := by
  unfold settlingSample; try dsimp only
  all_goals ((repeat' split) <;> first | rfl | simp)
@[simp] theorem upstream_corr_offset (st : NodeState) (p : Sample) : (upstream st p s).corr.offset = s.corr.offset := by
  unfold upstream; try dsimp only
  all_goals ((repeat' split) <;> first | rfl | simp)
@[simp] theorem evaluated_corr_offset (q : Request) (p : Sample) : (evaluated q p s).corr.offset = s.corr.offset := by
  unfold evaluated; try dsimp only
  all_goals ((repeat' split) <;> first | rfl | simp)

/-! #### corr.held -/

@[simp] theorem moveTo_corr_held (n : NodeState) : (moveTo n s).corr.held = s.corr.held := by
  unfold moveTo; try dsimp only
  all_goals ((repeat' split) <;> first | rfl | simp)
@[simp] theorem enterFault_corr_held (c : Cause) : (enterFault c s).corr.held = s.corr.held := by
  unfold enterFault; try dsimp only
  all_goals ((repeat' split) <;> first | rfl | simp)
@[simp] theorem raise_corr_held (c : Cause) : (raise c s).corr.held = s.corr.held := by
  unfold raise; try dsimp only
  all_goals ((repeat' split) <;> first | rfl | simp)
@[simp] theorem raiseTwo_corr_held (c d : Cause) : (raiseTwo c d s).corr.held = s.corr.held := by
  unfold raiseTwo; try dsimp only
  all_goals ((repeat' split) <;> first | rfl | simp)
@[simp] theorem raiseFound_corr_held (b : Bool) (o : Option Cause) : (raiseFound b o s).corr.held = s.corr.held := by
  unfold raiseFound; try dsimp only
  all_goals ((repeat' split) <;> first | rfl | simp)
@[simp] theorem judgeHold_corr_held : (judgeHold s).corr.held = s.corr.held := by
  unfold judgeHold; try dsimp only
  all_goals ((repeat' split) <;> first | rfl | simp)
@[simp] theorem enterParking_corr_held : (enterParking s).corr.held = s.corr.held := by
  unfold enterParking; try dsimp only
  all_goals ((repeat' split) <;> first | rfl | simp)
@[simp] theorem enterEngaged_corr_held : (enterEngaged s).corr.held = s.corr.held := by
  unfold enterEngaged; try dsimp only
  all_goals ((repeat' split) <;> first | rfl | simp)
@[simp] theorem engageOrHold_corr_held : (engageOrHold s).corr.held = s.corr.held := by
  unfold engageOrHold; try dsimp only
  all_goals ((repeat' split) <;> first | rfl | simp)
@[simp] theorem leaveSettling_corr_held : (leaveSettling s).corr.held = s.corr.held := by
  unfold leaveSettling; try dsimp only
  all_goals ((repeat' split) <;> first | rfl | simp)
@[simp] theorem pageChange_corr_held (p : PageNo) : (pageChange p s).corr.held = s.corr.held := by
  unfold pageChange; try dsimp only
  all_goals ((repeat' split) <;> first | rfl | simp)
@[simp] theorem resolveInUse_corr_held (r : Regime) : (resolveInUse r s).corr.held = s.corr.held := by
  unfold resolveInUse; try dsimp only
  all_goals ((repeat' split) <;> first | rfl | simp)
@[simp] theorem switchRegime_corr_held (r : Regime) : (switchRegime r s).corr.held = s.corr.held := by
  unfold switchRegime; try dsimp only
  all_goals ((repeat' split) <;> first | rfl | simp)
@[simp] theorem testLocalPending_corr_held (t : Time) : (testLocalPending t s).corr.held = s.corr.held := by
  unfold testLocalPending; try dsimp only
  all_goals ((repeat' split) <;> first | rfl | simp)
@[simp] theorem homeSample_corr_held : (homeSample s).corr.held = s.corr.held := by
  unfold homeSample; try dsimp only
  all_goals ((repeat' split) <;> first | rfl | simp)
@[simp] theorem arrive_corr_held : (arrive s).corr.held = s.corr.held := by
  unfold arrive; try dsimp only
  all_goals ((repeat' split) <;> first | rfl | simp)
@[simp] theorem parkSample_corr_held (a r : Int) : (parkSample a r s).corr.held = s.corr.held := by
  unfold parkSample; try dsimp only
  all_goals ((repeat' split) <;> first | rfl | simp)
@[simp] theorem holdSample_corr_held : (holdSample s).corr.held = s.corr.held := by
  unfold holdSample; try dsimp only
  all_goals ((repeat' split) <;> first | rfl | simp)
@[simp] theorem missReading_corr_held : (missReading s).corr.held = s.corr.held := by
  unfold missReading; try dsimp only
  all_goals ((repeat' split) <;> first | rfl | simp)
@[simp] theorem captureSample_corr_held (p : Sample) : (captureSample p s).corr.held = s.corr.held := by
  unfold captureSample; try dsimp only
  all_goals ((repeat' split) <;> first | rfl | simp)
@[simp] theorem testEffect_corr_held (t : Time) : (testEffect t s).corr.held = s.corr.held := by
  unfold testEffect; try dsimp only
  all_goals ((repeat' split) <;> first | rfl | simp)
@[simp] theorem regimeStep_corr_held (st : NodeState) (t : Time) : (regimeStep st t s).corr.held = s.corr.held := by
  unfold regimeStep; try dsimp only
  all_goals ((repeat' split) <;> first | rfl | simp)
@[simp] theorem vehicleSample_corr_held (st : NodeState) (p : Sample) : (vehicleSample st p s).corr.held = s.corr.held := by
  unfold vehicleSample; try dsimp only
  all_goals ((repeat' split) <;> first | rfl | simp)
@[simp] theorem reversalStep_corr_held : (reversalStep s).corr.held = s.corr.held := by
  unfold reversalStep; try dsimp only
  all_goals ((repeat' split) <;> first | rfl | simp)
@[simp] theorem engagedSent_corr_held (l a u : Int) : (engagedSent l a u s).corr.held = s.corr.held := by
  unfold engagedSent; try dsimp only
  all_goals ((repeat' split) <;> first | rfl | simp)
@[simp] theorem engagedSample_corr_held (a b c : Int) : (engagedSample a b c s).corr.held = s.corr.held := by
  unfold engagedSample; try dsimp only
  all_goals ((repeat' split) <;> first | rfl | simp)
@[simp] theorem commandSample_corr_held (st : NodeState) (a b c : Int) : (commandSample st a b c s).corr.held = s.corr.held := by
  unfold commandSample; try dsimp only
  all_goals ((repeat' split) <;> first | rfl | simp)
@[simp] theorem holdExitStep_corr_held (st : NodeState) : (holdExitStep st s).corr.held = s.corr.held := by
  unfold holdExitStep; try dsimp only
  all_goals ((repeat' split) <;> first | rfl | simp)
@[simp] theorem evaluateFor_corr_held (t : Time) : (evaluateFor t s).corr.held = s.corr.held := by
  unfold evaluateFor; try dsimp only
  all_goals ((repeat' split) <;> first | rfl | simp)
@[simp] theorem peerJointSample_corr_held (st : NodeState) (t : Time) : (peerJointSample st t s).corr.held = s.corr.held := by
  unfold peerJointSample; try dsimp only
  all_goals ((repeat' split) <;> first | rfl | simp)
@[simp] theorem settlingSample_corr_held (st : NodeState) (p : Sample) : (settlingSample st p s).corr.held = s.corr.held := by
  unfold settlingSample; try dsimp only
  all_goals ((repeat' split) <;> first | rfl | simp)
@[simp] theorem upstream_corr_held (st : NodeState) (p : Sample) : (upstream st p s).corr.held = s.corr.held := by
  unfold upstream; try dsimp only
  all_goals ((repeat' split) <;> first | rfl | simp)
@[simp] theorem evaluated_corr_held (q : Request) (p : Sample) : (evaluated q p s).corr.held = s.corr.held := by
  unfold evaluated; try dsimp only
  all_goals ((repeat' split) <;> first | rfl | simp)

/-! #### The tables of the gain directory -/

/-- The tables of the gain directory without their marks: what only SETUP and full reset change. -/
def tablesOf (g : GainDir) : Vector (Bool × GainSet) 8 × Vector (Bool × PageNo) 32 :=
  (g.pages.map (fun p => (p.present, p.gains)), g.entries.map (fun e => (e.present, e.page)))

theorem tablesOf_putPage (g : GainDir) (p : PageNo) (x : Page)
    (h : x.present = (pageAt g p).present) (h' : x.gains = (pageAt g p).gains) :
    tablesOf (putPage g p x) = tablesOf g := by
  simp only [tablesOf, putPage, Prod.mk.injEq, and_true]
  ext i hi
  · simp only [Vector.getElem_map, Vector.getElem_set]
    split
    · next e => subst e; simp [h, pageAt]
    · rfl
  all_goals
    simp only [Vector.getElem_map, Vector.getElem_set]
    split
    · next e => subst e; simp [h', pageAt]
    · rfl

/-- Equal tables are equal page by page and entry by entry. -/
theorem tablesOf_eq_iff (g h : GainDir) : tablesOf g = tablesOf h ↔
    (∀ p : PageNo, g.pages[p].present = h.pages[p].present ∧ g.pages[p].gains = h.pages[p].gains)
      ∧ ∀ r : Regime, g.entries[r].present = h.entries[r].present
          ∧ g.entries[r].page = h.entries[r].page := by
  constructor
  · intro e
    simp only [tablesOf, Prod.mk.injEq] at e
    refine ⟨fun p => ?_, fun r => ?_⟩
    · have := congrArg (fun v => v[p]) e.1
      simpa using this
    · have := congrArg (fun v => v[r]) e.2
      simpa using this
  · rintro ⟨a, b⟩
    simp only [tablesOf, Prod.mk.injEq]
    refine ⟨?_, ?_⟩
    · apply Vector.ext; intro i hi; simpa using a ⟨i, hi⟩
    · apply Vector.ext; intro i hi; simpa using b ⟨i, hi⟩

@[simp] theorem resolveMarks_tablesOf (g : GainDir) (r : Regime) :
    tablesOf (resolveMarks g r) = tablesOf g := by
  refine (tablesOf_putPage { g with entries := g.entries.set r { g.entries[r] with visited := true } }
    (chosenPage g r) { pageAt g (chosenPage g r) with used := true } rfl rfl).trans ?_
  rw [tablesOf_eq_iff]
  refine ⟨fun p => ⟨rfl, rfl⟩, fun k => ?_⟩
  by_cases h : k = r
  · subst h; simp
  · have : r.val ≠ k.val := fun e => h (Fin.ext e.symm)
    simp [this]
@[simp] theorem movePage_tablesOf (b : Bool) (p : PageNo) (g : GainDir) :
    tablesOf (movePage b p g) = tablesOf g := rfl
@[simp] theorem engageBlend_tablesOf (g : GainDir) : tablesOf (engageBlend g) = tablesOf g := rfl
@[simp] theorem markStrained_tablesOf (g : GainDir) : tablesOf (markStrained g) = tablesOf g := by
  unfold markStrained; split
  · exact tablesOf_putPage _ _ _ rfl rfl
  · rfl
@[simp] theorem withdrawn_tablesOf (g : GainDir) (p : PageNo) :
    tablesOf (putPage g p { pageAt g p with withdrawn := true }) = tablesOf g :=
  tablesOf_putPage _ _ _ rfl rfl
/-- Tables do not read the working context. -/
@[simp] theorem tablesOf_blend (g : GainDir) (n : Nat) :
    tablesOf { g with blend := n } = tablesOf g := rfl
@[simp] theorem tablesOf_regime (g : GainDir) (r : Option Regime) :
    tablesOf { g with regime := r } = tablesOf g := rfl
@[simp] theorem tablesOf_pending (g : GainDir) (r : Option (Regime × Time)) :
    tablesOf { g with pending := r } = tablesOf g := rfl

@[simp] theorem moveTo_tables (n : NodeState) :
    tablesOf (moveTo n s).gains = tablesOf s.gains := by
  unfold moveTo; try dsimp only
  all_goals ((repeat' split) <;> first | rfl | simp)
@[simp] theorem enterFault_tables (c : Cause) :
    tablesOf (enterFault c s).gains = tablesOf s.gains := by
  unfold enterFault; try dsimp only
  all_goals ((repeat' split) <;> first | rfl | simp)
@[simp] theorem raise_tables (c : Cause) :
    tablesOf (raise c s).gains = tablesOf s.gains := by
  unfold raise; try dsimp only
  all_goals ((repeat' split) <;> first | rfl | simp)
@[simp] theorem raiseTwo_tables (c d : Cause) :
    tablesOf (raiseTwo c d s).gains = tablesOf s.gains := by
  unfold raiseTwo; try dsimp only
  all_goals ((repeat' split) <;> first | rfl | simp)
@[simp] theorem raiseFound_tables (b : Bool) (o : Option Cause) :
    tablesOf (raiseFound b o s).gains = tablesOf s.gains := by
  unfold raiseFound; try dsimp only
  all_goals ((repeat' split) <;> first | rfl | simp)
@[simp] theorem judgeHold_tables :
    tablesOf (judgeHold s).gains = tablesOf s.gains := by
  unfold judgeHold; try dsimp only
  all_goals ((repeat' split) <;> first | rfl | simp)
@[simp] theorem enterParking_tables :
    tablesOf (enterParking s).gains = tablesOf s.gains := by
  unfold enterParking; try dsimp only
  all_goals ((repeat' split) <;> first | rfl | simp)
@[simp] theorem enterEngaged_tables :
    tablesOf (enterEngaged s).gains = tablesOf s.gains := by
  unfold enterEngaged; try dsimp only
  all_goals ((repeat' split) <;> first | rfl | simp)
@[simp] theorem engageOrHold_tables :
    tablesOf (engageOrHold s).gains = tablesOf s.gains := by
  unfold engageOrHold; try dsimp only
  all_goals ((repeat' split) <;> first | rfl | simp)
@[simp] theorem leaveSettling_tables :
    tablesOf (leaveSettling s).gains = tablesOf s.gains := by
  unfold leaveSettling; try dsimp only
  all_goals ((repeat' split) <;> first | rfl | simp)
@[simp] theorem pageChange_tables (p : PageNo) :
    tablesOf (pageChange p s).gains = tablesOf s.gains := by
  unfold pageChange; try dsimp only
  all_goals ((repeat' split) <;> first | rfl | simp)
@[simp] theorem resolveInUse_tables (r : Regime) :
    tablesOf (resolveInUse r s).gains = tablesOf s.gains := by
  unfold resolveInUse; try dsimp only
  all_goals ((repeat' split) <;> first | rfl | simp)
@[simp] theorem switchRegime_tables (r : Regime) :
    tablesOf (switchRegime r s).gains = tablesOf s.gains := by
  unfold switchRegime; try dsimp only
  all_goals ((repeat' split) <;> first | rfl | simp)
@[simp] theorem testLocalPending_tables (t : Time) :
    tablesOf (testLocalPending t s).gains = tablesOf s.gains := by
  unfold testLocalPending; try dsimp only
  all_goals ((repeat' split) <;> first | rfl | simp)
@[simp] theorem homeSample_tables :
    tablesOf (homeSample s).gains = tablesOf s.gains := by
  unfold homeSample; try dsimp only
  all_goals ((repeat' split) <;> first | rfl | simp)
@[simp] theorem arrive_tables :
    tablesOf (arrive s).gains = tablesOf s.gains := by
  unfold arrive; try dsimp only
  all_goals ((repeat' split) <;> first | rfl | simp)
@[simp] theorem parkSample_tables (a r : Int) :
    tablesOf (parkSample a r s).gains = tablesOf s.gains := by
  unfold parkSample; try dsimp only
  all_goals ((repeat' split) <;> first | rfl | simp)
@[simp] theorem holdSample_tables :
    tablesOf (holdSample s).gains = tablesOf s.gains := by
  unfold holdSample; try dsimp only
  all_goals ((repeat' split) <;> first | rfl | simp)
@[simp] theorem missReading_tables :
    tablesOf (missReading s).gains = tablesOf s.gains := by
  unfold missReading; try dsimp only
  all_goals ((repeat' split) <;> first | rfl | simp)
@[simp] theorem captureSample_tables (p : Sample) :
    tablesOf (captureSample p s).gains = tablesOf s.gains := by
  unfold captureSample; try dsimp only
  all_goals ((repeat' split) <;> first | rfl | simp)
@[simp] theorem testEffect_tables (t : Time) :
    tablesOf (testEffect t s).gains = tablesOf s.gains := by
  unfold testEffect; try dsimp only
  all_goals ((repeat' split) <;> first | rfl | simp)
@[simp] theorem regimeStep_tables (st : NodeState) (t : Time) :
    tablesOf (regimeStep st t s).gains = tablesOf s.gains := by
  unfold regimeStep; try dsimp only
  all_goals ((repeat' split) <;> first | rfl | simp)
@[simp] theorem vehicleSample_tables (st : NodeState) (p : Sample) :
    tablesOf (vehicleSample st p s).gains = tablesOf s.gains := by
  unfold vehicleSample; try dsimp only
  all_goals ((repeat' split) <;> first | rfl | simp)
@[simp] theorem aimSample_tables (st : NodeState) (t : Time) :
    tablesOf (aimSample st t s).2.gains = tablesOf s.gains := by
  unfold aimSample; try dsimp only
  all_goals ((repeat' split) <;> first | rfl | simp)
@[simp] theorem reversalStep_tables :
    tablesOf (reversalStep s).gains = tablesOf s.gains := by
  unfold reversalStep; try dsimp only
  all_goals ((repeat' split) <;> first | rfl | simp)
@[simp] theorem engagedSent_tables (l a u : Int) :
    tablesOf (engagedSent l a u s).gains = tablesOf s.gains := by
  unfold engagedSent; try dsimp only
  all_goals ((repeat' split) <;> first | rfl | simp)
@[simp] theorem engagedSample_tables (a b c : Int) :
    tablesOf (engagedSample a b c s).gains = tablesOf s.gains := by
  unfold engagedSample; try dsimp only
  all_goals ((repeat' split) <;> first | rfl | simp)
@[simp] theorem commandSample_tables (st : NodeState) (a b c : Int) :
    tablesOf (commandSample st a b c s).gains = tablesOf s.gains := by
  unfold commandSample; try dsimp only
  all_goals ((repeat' split) <;> first | rfl | simp)
@[simp] theorem settlingSample_tables (st : NodeState) (p : Sample) :
    tablesOf (settlingSample st p s).gains = tablesOf s.gains := by
  unfold settlingSample; try dsimp only
  all_goals ((repeat' split) <;> first | rfl | simp)
@[simp] theorem correctionSample_tables (st : NodeState) (p : Sample) :
    tablesOf (correctionSample st p s).gains = tablesOf s.gains := by
  unfold correctionSample; try dsimp only
  all_goals ((repeat' split) <;> first | rfl | simp)
@[simp] theorem holdExitStep_tables (st : NodeState) :
    tablesOf (holdExitStep st s).gains = tablesOf s.gains := by
  unfold holdExitStep; try dsimp only
  all_goals ((repeat' split) <;> first | rfl | simp)
@[simp] theorem evaluateFor_tables (t : Time) :
    tablesOf (evaluateFor t s).gains = tablesOf s.gains := by
  unfold evaluateFor; try dsimp only
  all_goals ((repeat' split) <;> first | rfl | simp)
@[simp] theorem peerJointSample_tables (st : NodeState) (t : Time) :
    tablesOf (peerJointSample st t s).gains = tablesOf s.gains := by
  unfold peerJointSample; try dsimp only
  all_goals ((repeat' split) <;> first | rfl | simp)
@[simp] theorem upstream_tables (st : NodeState) (p : Sample) :
    tablesOf (upstream st p s).gains = tablesOf s.gains := by
  unfold upstream; try dsimp only
  all_goals ((repeat' split) <;> first | rfl | simp)
@[simp] theorem handOn_tables (st : NodeState) (p : Sample) :
    tablesOf (handOn st p s).gains = tablesOf s.gains := by
  unfold handOn; try dsimp only
  all_goals ((repeat' split) <;> first | rfl | simp)
@[simp] theorem evaluated_tables (q : Request) (p : Sample) :
    tablesOf (evaluated q p s).gains = tablesOf s.gains := by
  unfold evaluated; try dsimp only
  all_goals ((repeat' split) <;> first | rfl | simp)
@[simp] theorem deliver_tables (q : Request) (v : Bool) :
    tablesOf (deliver q v s).gains = tablesOf s.gains := by
  unfold deliver; try dsimp only
  all_goals ((repeat' split) <;> first | rfl | simp)
@[simp] theorem abandonRequest_tables :
    tablesOf (abandonRequest s).gains = tablesOf s.gains := by
  unfold abandonRequest; try dsimp only
  all_goals ((repeat' split) <;> first | rfl | simp)

end Sys2Proof.Machine
end

