-- ==== Sys2Proof/Laws/Rules.lean ====
section
/-! SUPPORT. What the shared operations behind a FAULT, a ramp, a regime switch, the role map and an item
taken come to, said once each in the words of Safety.lean. -/

namespace Sys2Proof.Machine

/-- An entry to FAULT is the state that Safety.lean writes out (R14, R16, R68, R70, R76, R130, R145). -/
theorem enterFault_eq (c : Cause) (s : State) : enterFault c s = s.faultEntered c (causeBit c) := by
  simp only [enterFault, silenced, State.faultEntered, moveTo, driveFor, driveOff, isMotion, Bool.and_false]
  cases s.node.state <;> simp

/-- A raised cause joins the set in FAULT, enters FAULT from the states of R14, and does nothing else. -/
theorem raise_cases (c : Cause) (s : State) :
    (s.node.state = .fault ∧ raise c s = s.setNode { s.node with record := laterCause c s.node.record })
      ∨ (takesFault s.node.state = true ∧ raise c s = s.faultEntered c (causeBit c))
      ∨ (s.node.state ≠ .fault ∧ takesFault s.node.state = false ∧ raise c s = s) := by
  unfold raise
  split
  · exact .inl ⟨‹_›, rfl⟩
  · split
    · exact .inr (.inl ⟨‹_›, enterFault_eq c s⟩)
    · exact .inr (.inr ⟨‹_›, Bool.eq_false_iff.mpr ‹_›, rfl⟩)

/-- A ramp stands exactly in FAULT where it was halted on leaving ENGAGED (R14). -/
theorem rampAdvances_eq_false (st : NodeState) (c : Correction) :
    rampAdvances st c = false ↔ st = .fault ∧ c.loss = .reacquiring ∧ c.rampHalted = true := by
  simp [rampAdvances, and_assoc]

/-- The reacquire count after a ramp sample (R165). -/
@[simp] theorem rampStep_reacquire (b : Bool) (j : Nat) (c : Correction) :
    (rampStep b j c).reacquire = if b then j + 1 else j := by
  cases b <;> rfl

/-- The loss state after a ramp sample (R165). -/
@[simp] theorem rampStep_loss (b : Bool) (j : Nat) (c : Correction) :
    (rampStep b j c).loss = if b = true ∧ j + 1 = 64 then .tracking else .reacquiring := by
  cases b <;> simp [rampStep]

@[simp] theorem rampStep_offset (b : Bool) (j : Nat) (c : Correction) :
    (rampStep b j c).offset = c.offset := by
  cases b <;> rfl

@[simp] theorem rampStep_held (b : Bool) (j : Nat) (c : Correction) : (rampStep b j c).held = c.held := by
  cases b <;> rfl

/-- A regime switch is the state that Safety.lean writes out (R139, R143, R144, R146). -/
theorem switchRegime_eq (r : Regime) (s : State) : switchRegime r s = s.regimeSwitched r := by
  have h : chosenPage { s.gains with regime := some r } r = chosenPage s.gains r := rfl
  simp only [switchRegime, resolveInUse, State.regimeSwitched, State.setGains, h]
  split
  · simp [resolveMarks, putPage, pageAt, *]
    constructor <;> rfl
  · simp [pageChange, movePage, resolveMarks, putPage, pageAt, effectiveGains, clearReversals, h]

/-- Only the roles 1..5 are mapped (R56). -/
@[simp] theorem roleMap_of_not_joint (p : Peers) (own r : Role) (h : isJoint r = false) :
    roleMap p own r = none := by
  simp [roleMap, h]

@[simp] theorem roleMap_own (p : Peers) (r : Role) : roleMap p r r = none := by
  simp [roleMap]

/-! ### The working context while items are taken (R140) -/

@[simp] theorem fillItem_page (i : ItemName) (t : Items) (g : GainDir) : (fillItem i t g).page = g.page := by
  unfold fillItem; split <;> simp only [putPage]

@[simp] theorem fillItem_regime (i : ItemName) (t : Items) (g : GainDir) :
    (fillItem i t g).regime = g.regime := by
  unfold fillItem; split <;> simp only [putPage]

@[simp] theorem fillItem_fromGains (i : ItemName) (t : Items) (g : GainDir) :
    (fillItem i t g).fromGains = g.fromGains := by
  unfold fillItem; split <;> simp only [putPage]

@[simp] theorem fillItem_toGains (i : ItemName) (t : Items) (g : GainDir) :
    (fillItem i t g).toGains = g.toGains := by
  unfold fillItem; split <;> simp only [putPage]

@[simp] theorem fillItem_blend (i : ItemName) (t : Items) (g : GainDir) :
    (fillItem i t g).blend = g.blend := by
  unfold fillItem; split <;> simp only [putPage]

@[simp] theorem fillItem_pending (i : ItemName) (t : Items) (g : GainDir) :
    (fillItem i t g).pending = g.pending := by
  unfold fillItem; split <;> simp only [putPage]

end Sys2Proof.Machine
end

