-- ==== Sys2Proof/Laws/Trigger.lean ====
section
/-! SUPPORT. A sample trigger as one delivery: runTrigger_of_ends takes a reply or an expiry apart into
the reading, the evaluation and the blocks' work, and sampleComes_of says when a named row runs it. -/

namespace Sys2Proof.Machine

variable (s : State)

/-- What follows a delivery in the same event: at an expiry the new request. -/
def thenRequest (tr : SampleTrigger) (now : Time) (count : BitVec 32) (s : State) : State :=
  match tr with
  | .reply _ => s
  | .expiry _ => sendRequest now count s

@[simp] theorem thenRequest_uptime (tr : SampleTrigger) (n : Time) (c : BitVec 32) :
    (thenRequest tr n c s).uptime = s.uptime := by cases tr <;> simp [thenRequest]
@[simp] theorem thenRequest_ident (tr : SampleTrigger) (n : Time) (c : BitVec 32) :
    (thenRequest tr n c s).ident = s.ident := by cases tr <;> simp [thenRequest]
@[simp] theorem thenRequest_node (tr : SampleTrigger) (n : Time) (c : BitVec 32) :
    (thenRequest tr n c s).node = s.node := by cases tr <;> simp [thenRequest]
@[simp] theorem thenRequest_check (tr : SampleTrigger) (n : Time) (c : BitVec 32) :
    (thenRequest tr n c s).check = s.check := by cases tr <;> simp [thenRequest]
@[simp] theorem thenRequest_link (tr : SampleTrigger) (n : Time) (c : BitVec 32) :
    (thenRequest tr n c s).link = s.link := by cases tr <;> simp [thenRequest]
@[simp] theorem thenRequest_peers (tr : SampleTrigger) (n : Time) (c : BitVec 32) :
    (thenRequest tr n c s).peers = s.peers := by cases tr <;> simp [thenRequest]
@[simp] theorem thenRequest_drive (tr : SampleTrigger) (n : Time) (c : BitVec 32) :
    (thenRequest tr n c s).drive = s.drive := by cases tr <;> simp [thenRequest]
@[simp] theorem thenRequest_vref (tr : SampleTrigger) (n : Time) (c : BitVec 32) :
    (thenRequest tr n c s).vref = s.vref := by cases tr <;> simp [thenRequest]
@[simp] theorem thenRequest_corr (tr : SampleTrigger) (n : Time) (c : BitVec 32) :
    (thenRequest tr n c s).corr = s.corr := by cases tr <;> simp [thenRequest]
@[simp] theorem thenRequest_gains (tr : SampleTrigger) (n : Time) (c : BitVec 32) :
    (thenRequest tr n c s).gains = s.gains := by cases tr <;> simp [thenRequest]
@[simp] theorem thenRequest_console (tr : SampleTrigger) (n : Time) (c : BitVec 32) :
    (thenRequest tr n c s).console = s.console := by cases tr <;> simp [thenRequest]
@[simp] theorem thenRequest_setup (tr : SampleTrigger) (n : Time) (c : BitVec 32) :
    (thenRequest tr n c s).setup = s.setup := by cases tr <;> simp [thenRequest]
@[simp] theorem thenRequest_pins (tr : SampleTrigger) (n : Time) (c : BitVec 32) :
    (thenRequest tr n c s).pins = s.pins := by cases tr <;> simp [thenRequest]
@[simp] theorem thenRequest_pending (tr : SampleTrigger) (n : Time) (c : BitVec 32) :
    (thenRequest tr n c s).pending = s.pending := by cases tr <;> simp [thenRequest]
/-- The request changes nothing of the sensor but what is in flight. -/
theorem thenRequest_sensor (tr : SampleTrigger) (n : Time) (c : BitVec 32) :
    (thenRequest tr n c s).sensor = { s.sensor with
      inFlight := (thenRequest tr n c s).sensor.inFlight } := by cases tr <;> rfl

@[simp] theorem afterReading_uptime (tr : SampleTrigger) (n : Time) :
    (s.afterReading tr n).uptime = n := by
  cases tr <;> simp only [State.afterReading] <;> (try split) <;> simp
@[simp] theorem afterReading_ident (tr : SampleTrigger) (n : Time) :
    (s.afterReading tr n).ident = s.ident := by
  cases tr <;> simp only [State.afterReading] <;> (try split) <;> simp
@[simp] theorem afterReading_check (tr : SampleTrigger) (n : Time) :
    (s.afterReading tr n).check = s.check := by
  cases tr <;> simp only [State.afterReading] <;> (try split) <;> simp
@[simp] theorem afterReading_link (tr : SampleTrigger) (n : Time) (hc : s.ident.role ≠ .console) :
    (s.afterReading tr n).link = s.link := by
  cases tr <;> simp only [State.afterReading] <;> (try split) <;> simp -implicitDefEqProofs [hc]
@[simp] theorem afterReading_peers (tr : SampleTrigger) (n : Time) :
    (s.afterReading tr n).peers = s.peers := by
  cases tr <;> simp only [State.afterReading] <;> (try split) <;> simp
@[simp] theorem afterReading_vref (tr : SampleTrigger) (n : Time) :
    (s.afterReading tr n).vref = s.vref := by
  cases tr <;> simp only [State.afterReading] <;> (try split) <;> simp
@[simp] theorem afterReading_console (tr : SampleTrigger) (n : Time) :
    (s.afterReading tr n).console = s.console := by
  cases tr <;> simp only [State.afterReading] <;> (try split) <;> simp
@[simp] theorem afterReading_setup (tr : SampleTrigger) (n : Time) :
    (s.afterReading tr n).setup = s.setup := by
  cases tr <;> simp only [State.afterReading] <;> (try split) <;> simp
@[simp] theorem afterReading_pins (tr : SampleTrigger) (n : Time) :
    (s.afterReading tr n).pins = s.pins := by
  cases tr <;> simp only [State.afterReading] <;> (try split) <;> simp
@[simp] theorem afterReading_pending (tr : SampleTrigger) (n : Time) :
    (s.afterReading tr n).pending = s.pending := by
  cases tr <;> simp only [State.afterReading] <;> (try split) <;> simp
@[simp] theorem afterReading_tables (tr : SampleTrigger) (n : Time) :
    tablesOf (s.afterReading tr n).gains = tablesOf s.gains := by
  cases tr <;> simp only [State.afterReading] <;> (try split) <;> simp

/-- A trigger that ends a request delivers its sample: the reading, the evaluation, the blocks' work,
and at an expiry the new request (R60, R62). -/
theorem runTrigger_of_ends {q : Request} {tr : SampleTrigger} (h : s.ends q tr) (now : Time) :
    runTrigger tr now s = thenRequest tr now s.sensor.count
      (handOn (s.atDelivery q tr now).node.state (s.sampleFor q tr now) (s.atDelivery q tr now)) := by
  obtain ⟨hj, hs, hf, ht, ha⟩ := h
  have h1 : s.node.state ≠ .selfcheck := by intro e; rw [e] at hs; simp [samples] at hs
  have h2 : s.ident.role ≠ .console := by intro e; rw [e] at hj; simp [isJoint] at hj
  cases tr with
  | reply r =>
    simp only [runTrigger, replyArrives, replyWork, ha r rfl, Bool.false_eq_true,
      State.setUptime_node, h1, if_false,
      State.setUptime_sensor, hf]
    cases hv : replyValid r <;>
      simp [thenRequest, deliver, State.atDelivery, State.sampleFor, State.afterReading, triggerValid,
        hv]
  | expiry m =>
    have ht := ht m rfl
    simp [runTrigger, timerExpires, expiryWork, ht, h1, h2, hs, abandonRequest, hf, thenRequest,
      deliver, State.atDelivery, State.sampleFor, State.afterReading, triggerValid]

/-- The row of a trigger's event runs the trigger. -/
theorem exec_eventOf (tr : SampleTrigger) (now : Time) :
    exec (eventOf tr now) s = .next (runTrigger tr now s) := by cases tr <;> rfl

/-- A named row that comes about answers the state its step leads to. -/
theorem sampleComes_of {comes : State → State → Bool} {tr : SampleTrigger} {now : Time}
    (h : comes s (runTrigger tr now s) = true) :
    sampleComes comes tr now s = runTrigger tr now s := by
  simp [sampleComes, whenComes, h]

end Sys2Proof.Machine
end

