-- ==== Sys2Proof/Tests/Slice0.lean ====
section
/-! SUPPORT. The model's own tests. Expected values come from the worked cases and tables of the spec. -/

namespace Sys2Proof.Tests

open Sys2Proof.Machine

/-! ### Setup used by the tests: BOOM of the worked cases -/

/-- BOOM's items of "one sample on the pitch axis". -/
def boomItems : Items :=
  { Items.none with
    g1 := some { scale := 4096, negative := false }
    g2 := some { min := -8000, max := 12000, continuous := false }
    g3 := some { cushion := 1024, park := 0 }
    g4 := some { homeAngle := 0, decreasing := true, homeRate := 2000, parkRate := 3000 }
    g5 := some 40 }

/-- BOOM's setup. -/
def boomSetup : Setup := { Setup.reset with items := boomItems, committed := true }

/-- TILT's setup: window −6000..6000, cushion 800, scale 1229, sign −1, home angle −2000. -/
def tiltSetup : Setup :=
  { boomSetup with
    items := { boomItems with
      g1 := some { scale := 1229, negative := true }
      g2 := some { min := -6000, max := 6000, continuous := false }
      g3 := some { cushion := 800, park := 0 }
      g4 := some { homeAngle := -2000, decreasing := true, homeRate := 2000, parkRate := 3000 } } }

/-- BOOM's gains. -/
def boomGains : GainSet := { kp := 512, kd := 128, lr := 4000, la := 64, alpha := 2048, rho := 32 }

/-! ### Arithmetic and chapter 3: extrapolation -/

theorem test_project_vehicle : projected 546 (-640) 400 = 542 ∧ projected 546 (-640) 420 = 542 := by
  decide

theorem test_project_partner : projected (-1190) (-256) 4670 = -1208 ∧ projected (-1183) (-256) 300 = -1184 := by
  decide

theorem test_missed_gap : missedAfter (some { content := (), capture := 0, age := 0, lastSeq := 52, fresh := .lost }) 90 4 = 41 := by
  decide

/-! ### Chapter 4 -/

theorem test_joint_angle :
    homedAngle tiltSetup 1004321#32 1000000#32 = -3297 ∧
      homedAngle tiltSetup 1004400#32 1000000#32 = -3320 := by decide

theorem test_full_bias :
    fullBias { yaw := 118000, pitch := -3100, roll := 1024 } = { yaw := 58, pitch := -2, roll := 1 } := by
  decide

theorem test_rough_bias :
    roughBias { anchor := Axes.zero, acc := { yaw := 40950, pitch := -1050, roll := 300 }, n := 700 }
      = { yaw := 59, pitch := -2, roll := 0 } := by decide

theorem test_run_restarts :
    runAfter 40 true { yaw := 60, pitch := -4, roll := 2 }
        (some { anchor := { yaw := 12, pitch := -5, roll := 3 }
                acc := { yaw := 42, pitch := -45, roll := 13 }, n := 2 })
      = some { anchor := { yaw := 60, pitch := -4, roll := 2 }
               acc := { yaw := 60, pitch := -4, roll := 2 }, n := 1 } := by decide

/-! ### Chapter 6 -/

theorem test_yaw_wraps :
    (integrate { yaw := 2096000, pitch := 0, roll := 0 } { yaw := 2000, pitch := 0, roll := 0 }).yaw = -2096304 ∧
      (publishedAttitude { yaw := -2096304, pitch := 0, roll := 0 }).yaw = -32755 := by decide

theorem test_heading_follows :
    followHeading { aim := Axes.zero, mode := .stab, beta := 4096 } (-2096304) 2090000 = 2090500 ∧
      followHeading { aim := Axes.zero, mode := .stab, beta := 4096 } (-2094304) 2090500 = 2091093 ∧
      publishedHeading 2091093 = 32673 := by decide

theorem test_roughness_term :
    roughnessTerm (some { yaw := 0, pitch := 120, roll := 40 }) { yaw := 0, pitch := -310, roll := 110 } Axes.zero = 500 := by
  decide

theorem test_pulse_speed : pulseSpeed 250 12500 = 200 ∧ pulseSpeed 250 12600 = 198 := by decide

/-! ### Chapter 7 -/

theorem test_boom_split : splitStep .boom (-1452) (-1200) 2048 = -1207 := by decide

theorem test_boom_command :
    loopCommand boomSetup boomGains (-1239) (-1232) (-2400) (-1180) (-256) = -2432 := by decide

theorem test_tilt_command :
    loopCommand tiltSetup { kp := 1024, kd := 64, lr := 12000, la := 400, alpha := 0, rho := 0 }
      (-268) (-262) 300 (-255) 320 = -100 := by decide

theorem test_boom_alone_command :
    loopCommand boomSetup boomGains (-1455) (-1239) (-2432) (-1218) (-2432) = -2496 := by decide

theorem test_cushion : cushionStep boomSetup 11500 4000 = 1953 := by decide

theorem test_first_samples :
    loopCommand boomSetup { kp := 8, kd := 2, lr := 62, la := 1, alpha := 32, rho := 0 } 1999 2000 0 2000 0 = -1 ∧
      loopCommand boomSetup { kp := 16, kd := 4, lr := 125, la := 2, alpha := 64, rho := 1 } 1996 1999 (-1) 2000 0 = -3 := by
  decide

/-! ### Chapter 8 -/

theorem test_blend_values :
    effective 512 384 24 = 464 ∧ effective 3625 2000 16 = 3219 ∧ effective 38 16 16 = 33 ∧
      effective 58 32 16 = 52 := by decide

theorem test_reversals :
    reversalFlag 3000 410 1 = false ∧ reversalFlag 3000 (-120) 1 = false ∧
      reversalFlag 3000 (-520) 1 = true ∧ signAfter 3000 (-520) 1 = -1 := by decide

/-! ### Chapter 9 -/

theorem test_reacquire_ramp :
    rampDemand .tilt (-900) (-542) (-1600) 0 = -1442 ∧ rampDemand .tilt (-900) (-542) (-1600) 1 = -1445 ∧
      rampDemand .tilt (-900) (-542) (-1600) 32 = -1521 ∧ rampDemand .tilt (-900) (-542) (-1600) 63 = -1598 := by
  decide

/-! ### Chapter 10 -/

theorem test_console_aim :
    steppedAim { yaw := 64, pitch := -48, roll := 16 } { pitchLimit := 12000, rollLimit := 4096, beta := 64 }
      { counters := { yaw := 1020, pitch := 495, roll := 0 }
        last := { yaw := 1000, pitch := 500, roll := 65534 }
        aim := { yaw := 32700, pitch := 11990, roll := 0 }
        mode := .stab, engageLevel := false, parkLevel := false }
      = { yaw := -32756, pitch := 12000, roll := 2 } := by decide

/-! ### States used by the row tests and the witnesses -/

/-- The request in flight of the sample tests. -/
def request : Request := { sampleTime := 1000, count := 0 }

/-- A valid reply of a still rate sensor. -/
def still : SensorReply := { yaw := 0, pitch := 0, roll := 0, checkOk := true, statusGood := true, abandoned := false }

/-- A valid reply, as the trigger of a sample. -/
def reply : SampleTrigger := .reply still

/-- A reply whose check fails, as the trigger of a sample. -/
def badReply : SampleTrigger := .reply { still with checkOk := false }

/-- Page 0 with BOOM's gains. -/
def page0 : Page := { Page.absent with present := true, gains := boomGains }

/-- A joint in a node state, set up as BOOM on page 0, at address 2 on an idle link, with a request in
flight. -/
def joint (r : Role) (st : NodeState) : State :=
  { State.reset with
    ident := { State.reset.ident with address := 2, role := r, auth := 0x1234, valid := true }
    node := { State.reset.node with state := st }
    link := { Link.reset with line := .idle }
    setup := boomSetup
    sensor := { Sensor.reset 0 with inFlight := some request }
    gains := { GainDir.reset with
      pages := GainDir.reset.pages.set 0 page0, page := some 0, fromGains := boomGains
      toGains := boomGains } }

/-- A CONSOLE in a node state, at address 6 on an idle link. -/
def console (st : NodeState) : State :=
  { State.reset with
    ident := { State.reset.ident with address := 6, role := .console, auth := 0x1234, valid := true }
    node := { State.reset.node with state := st }
    link := { Link.reset with line := .idle } }

/-- A frame with a COMMAND in it, as a slot holds it. -/
def commandFrame : TxFrame :=
  { body := .command { target := 15, op := 2, seq := 0, auth := 0 }, sampleTime := 0
    effectTime := none }

/-- The node with its COMMAND slot as given, and the link showing an activity. -/
def withCommand (slot : Slot) (act : Activity) (s : State) : State :=
  { s with link := { s.link with slots := { s.link.slots with command := slot }, activity := act } }

/-- A reading of a REPLY with all values 0. -/
def blankReply : ReplyPayload :=
  { item := 1, status := false, part := 0, seq := 0
    values := { v0 := 0, v1 := 0, v2 := 0, v3 := 0, v4 := 0, v5 := 0, v6 := 0, v7 := 0 } }

/-- A REPORT of a PARKED station that claims a role. -/
def reportOf (role : BitVec 4) : ReportPayload :=
  { seq := 0, role := role, state := 4, age := 0, angle := 0, rate := 0, offset := 0, command := 0
    flags := 0, hears := 0, ramping := false, page := 0, regime := 255, cause := 0 }

/-- A VEHICLE that publishes regime 3 and announces none. -/
def vehicleAt (regime : Byte) : VehiclePayload :=
  { seq := 0, valid := true, pendingPresent := false, age := 0, attYaw := 0, attPitch := 0
    attRoll := 0, rateYaw := 0, ratePitch := 0, rateRoll := 0, heading := 0, regime := regime
    pendingRegime := 0, lead := 0, speed := 0, roughness := 0 }

/-- A COMMAND from the service address to all stations, with the fused code of the test states. -/
def toAll : CommandArgs := { src := 7, target := 15, seq := 0, auth := 0x1234 }

/-- A SETUP from the service address to address 2 with the fused code and the given values. -/
def item (v1 v2 v3 v4 : Half) : SetupArgs :=
  { src := 7, auth := 0x1234, target := 2, v1 := v1, v2 := v2, v3 := v3, v4 := v4 }

/-- A QUERY from the service address. -/
def ask (target : Byte) (part : BitVec 3) : QueryArgs := { src := 7, target := target, part := part }

/-- Whether a command answers a next state with a property. -/
def leads (c : Instr) (s : State) (p : State → Bool) : Bool :=
  match exec c s with
  | .next t => p t
  | _ => false

/-- A node hears where the link lets it and no hold cause stands in ENGAGED or HOLD. -/
theorem hearing_of (s : State)
    (h : (contends s.node.state && s.link.line != .unready && !ownFrameOnLine s.link
      && (!holdCause (s.heard s.uptime) || (s.node.state != .engaged && s.node.state != .hold))) = true) :
    s.hearing := by
  simp only [Bool.and_eq_true, Bool.or_eq_true, bne_iff_ne, ne_eq, Bool.not_eq_true'] at h
  obtain ⟨⟨⟨h1, h2⟩, h3⟩, h4⟩ := h
  refine ⟨h1, h2, h3, ?_⟩
  rcases h4 with h4 | ⟨h5, h6⟩
  · exact ⟨fun _ => h4, fun _ h => absurd (h4.symm.trans h) (by decide)⟩
  · exact ⟨fun h => absurd h h5, fun h => absurd h h6⟩

/-- A reply completes the request in flight of a joint that samples. -/
theorem ends_reply (s : State) (q : Request) (r : SensorReply)
    (h : isJoint s.ident.role = true ∧ samples s.node.state = true ∧ s.sensor.inFlight = some q
      ∧ r.abandoned = false) :
    s.ends q (.reply r) :=
  ⟨h.1, h.2.1, h.2.2.1, (fun _ e => nomatch e),
    fun _ e => by cases e; exact h.2.2.2⟩

/-- No command but FULL_RESET is a full reset. -/
theorem contend_not_reset (a b d e : Byte) (x : Bool) : Instr.contend ≠ .fullReset a b d e x :=
  fun h => nomatch h

/-! ### Well-formedness: each check refuses an ill-formed command -/

theorem test_wf_malformed :
    wellFormed (.frameMalformed (encodeFrame { src := 1, body := .stop { cause := 1, seq := 0 } }) 0 0)
      = false := by decide +kernel

theorem test_wf_ignored :
    wellFormed (.frameIgnored { src := 7, body := .stop { cause := 1, seq := 0 } } 0 0) = false := by
  decide

theorem test_wf_own_address :
    wellFormed (.ownAddressFrame { src := 7, body := .stop { cause := 1, seq := 0 } } 0 0) = false := by
  decide

theorem test_wf_vehicle : wellFormed (.vehicleFrame 7 (vehicleAt 3) 0 0) = false := by decide

theorem test_wf_aim :
    wellFormed (.aimFrame 7 { seq := 0, mode := 0, yaw := 0, pitch := 0, roll := 0, beta := 0 } 0 0)
      = false := by decide

theorem test_wf_report : wellFormed (.reportFrame 7 (reportOf 2) 0 0) = false := by decide

theorem test_wf_unknown_op : wellFormed (.commandUnknownOp toAll 3 0) = false := by decide

/-! ### The line (R22, R23, R190, R191) -/

/-- The check value the generator, preset and order of R23 are published with elsewhere, over the nine
bytes "123456789"; its source is outside the spec. -/
theorem test_check_value :
    crc16 ([0x31, 0x32, 0x33, 0x34, 0x35, 0x36, 0x37, 0x38, 0x39].flatMap (bitsMsb 8)) = 0x29B1 := by
  decide +kernel

/-- A COMMAND of ENGAGE to 15 from the console at address 6: key 4·8 + 6, length 4, then the bytes of
its payload. -/
theorem test_command_on_the_line :
    (rawBits (encodeFrame { src := 6, body := .command { target := 15, op := 2, seq := 5, auth := 0 } })).take 43
      = [true, false, false, true, true, false,
         false, false, true, false, false,
         true, true, true, true, false, false, true, false,
         false, false, false, false, false, true, false, true,
         false, false, false, false, false, false, false, false,
         false, false, false, false, false, false, false, false] := by decide +kernel

/-- Line times of STOP, REPORT and VEHICLE. -/
theorem test_bit_times : bitTimes 2 = 46 ∧ bitTimes 18 = 174 ∧ bitTimes 26 = 238 := by decide

/-- The chapter 12 layout of a REPORT's second byte: the role in bits 7..4, the state in bits 3..0. -/
theorem test_report_byte :
    (payloadBytes (.report (reportOf 2)))[1]? = some 0x24 := by decide

/-- A part fused for BOOM at address 1 with its check byte comes up in SETUP; with TEST high it comes up
in SELFCHECK (R4, R193). -/
theorem test_fuses :
    leads (.fullReset 0x11 0x12 0x34 0xA8 false) State.reset (fun t =>
      t.node.state == .setup && t.ident.role == .boom && t.ident.address == 1
        && t.ident.auth == 0x1234) = true
    ∧ leads (.fullReset 0x11 0x12 0x34 0xA8 true) State.reset (fun t => t.node.state == .selfcheck) = true
    ∧ leads (.fullReset 0 0 0 0 false) State.reset (fun t => t.node.state == .unassigned) = true := by
  decide

/-! ### Rows -/

/-- A quadrature cycle with A leading: A, B, A, B count up by 4 (R69). -/
theorem test_encoder_cycle :
    (([Instr.encoderStep .a, .encoderStep .b, .encoderStep .a, .encoderStep .b].foldl
      (fun s c => match exec c s with
        | .next t => t
        | _ => s) (joint .boom .idle)).sensor.count = 4) := by decide +kernel

/-- Two presses of ENGAGE with no release between them arm one COMMAND (R175). -/
theorem test_held_button :
    leads .engageButtonPress (console .live) (fun s =>
      leads .engageButtonPress s (fun t => t.link.seqs.command == 1
        && t.link.superseded == 0)) = true := by decide

/-- A CONSOLE whose address another station bears enters FAULT, and its ARMED COMMAND does not go out
(R16, R20). -/
theorem test_console_silent :
    leads (.ownAddressFrame { src := 6, body := .stop { cause := 1, seq := 0 } } 0 10)
      (withCommand (.armed commandFrame 0) .idle (console .live)) (fun s =>
        s.node.state == .fault && s.link.superseded == 0 && s.link.dropped == 0
          && leads .contend s (fun t => t == s)) = true := by decide +kernel

/-- A joint homed again at the old count, with no sample in HOMING: the first sample after the capture has
rate 0, whatever it turned since (R85). -/
theorem test_recapture_rate :
    leads (.commandHome { src := 7, target := 15, seq := 0, auth := 0 } 0)
      { joint .boom .parked with
        node := { (joint .boom .parked).node with homed := true }
        sensor := { Sensor.reset 0 with
          count := 64, homeRef := 64, prev := some { angle := 0, homed := true, homeRef := 64 } } } (fun s =>
      leads .indexPulse s (fun t => t.node.homed && t.sensor.homeRef == 64
        && t.node.state == .parking && jointRate t 500 == 0 && lastAngle t == 0)) = true := by decide +kernel

/-- The rest of an abandoned reply is discarded: the request in flight stands (R61, R62). -/
theorem test_abandoned_reply :
    leads (.rateSensorReply { still with abandoned := true } 1500) (joint .boom .idle)
      (fun t => t.sensor.inFlight == some request && t.uptime == 1500) = true := by decide +kernel

/-- A start condition on the idle line shows receiving at an UNASSIGNED node (R40). -/
theorem test_start_seen :
    leads (.lineStartWake 10) (joint .boom .unassigned) (fun t => t.link.activity == .receiving) = true := by
  decide

/-- An own COMMAND that wins goes onto the line under key 4·8 + 2 with 4 bytes (R22, R28). -/
theorem test_sent_frame :
    leads (.contentionWin 10) (withCommand (.inFlight commandFrame 0 none) .contending (joint .boom .idle))
      (fun t => (sentFrame t).map (fun r => (r.key, r.length, r.payload)) ==
        some (34, 4, [0xF2, 0, 0, 0])) = true := by decide +kernel

/-- A third miss in PARKED enters FAULT and the brake stays applied (R63). -/
theorem test_third_miss :
    leads (.rateSensorReply { still with statusGood := false } 1500)
      { joint .boom .parked with sensor := { Sensor.reset 0 with inFlight := some request, misses := 2 } }
      (fun t => t.node.state == .fault && t.node.record.causes == 64 && t.drive.brake) = true := by
  decide +kernel

/-- A rate of 2^23 − 1 ru saturates as it is taken (R61). -/
theorem test_rate_saturates :
    leads (.rateSensorReply { still with yaw := 0x7FFFFF } 1500) (joint .boom .idle)
      (fun t => t.sensor.lastValid.yaw == 32767) = true := by decide +kernel

/-- An arriving STOP sends an ENGAGED joint to PARKING (R93). -/
theorem test_stop_parks :
    leads (.stopFrame 3 { cause := 1, seq := 0 } 2000) (joint .pan .engaged)
      (fun t => t.node.state == .parking && !t.drive.brake) = true := by decide +kernel

/-- A commit with nothing taken is INCOMPLETE (R184). -/
theorem test_empty_commit :
    leads (.commit (item 0 0 0 0) 0) { joint .boom .setup with setup := Setup.reset }
      (fun t => t.setup.lastError == .incomplete && t.node.state == .setup) = true := by decide +kernel

/-! ### Witnesses: states and operands that meet the hypotheses of a statement together, a line for each
clause that has hypotheses of its own. Statements without hypotheses have none here. -/

/-- A BOOM in HOMING with its home move. -/
def homingBoom : State :=
  { joint .boom .homing with
    drive := { Drive.reset false false false with
      enable := true, brake := false, home := some { up := true, reversals := 0, count := 0 } }
    sensor := { Sensor.reset 0 with inFlight := some request, indexArmed := true }
    pending := [.ledPhaseTimer] }

/-- A CONSOLE in FAULT on an address clash. -/
def clashedConsole : State :=
  (console .live).faultEntered .addressClash 512

theorem witness_StepsRunTheFrontCommandOrIdle :
    homingBoom.pending = [.ledPhaseTimer] ∧ State.reset.pending = [] := by decide

theorem witness_StepsKeepTheNodeOrderly :
    (homingBoom.orderly ∧ ∃ t, step homingBoom = .next t)
      ∧ clashedConsole.orderly ∧ ∃ t, step clashedConsole = .next t :=
  ⟨⟨⟨⟨rfl, rfl, by decide⟩, ⟨rfl, rfl⟩, fun h => absurd h (by decide), rfl, rfl,
      fun h => absurd h (by decide)⟩, _, rfl⟩,
    ⟨⟨rfl, rfl, fun _ => rfl⟩, ⟨rfl, rfl⟩, fun h => absurd h (by decide), rfl, rfl,
      fun _ _ => ⟨rfl, rfl⟩⟩, _, rfl⟩

theorem witness_StepsKeepHoldCausesJudged :
    (joint .base .engaged).judged ∧ (joint .base .engaged).coarseHeard
      ∧ ∃ t, step (joint .base .engaged) = .next t :=
  ⟨⟨fun _ => by decide, fun h => absurd h (by decide)⟩, fun _ h => absurd h (by decide), _, rfl⟩

theorem witness_StepsKeepThePageInUseUsable :
    ((joint .pan .engaged).pagesStand ∧ (joint .pan .engaged).gains.page = some 0
        ∧ (joint .pan .engaged).gains.pages[(0 : PageNo)].withdrawn = false)
      ∧ ∃ t, step (joint .pan .engaged) = .next t :=
  ⟨⟨fun _ => ⟨fun p h => by cases h; decide +kernel, fun h => absurd h (by decide),
      fun h => absurd h (by decide), rfl⟩, rfl, by decide +kernel⟩, _, rfl⟩

theorem witness_StepsKeepTheRoughnessSum :
    (let s : State := { joint .base .parked with
        sensor := { Sensor.reset 0 with
          inFlight := some request, ring := List.replicate 64 { rough := 500, reversal := false } }
        vref := { VehicleRef.reset with roughSum := 32000 }
        pending := [.rateSensorReply still 1500] };
      s.sumFollows ∧ s.ident.role = .base) ∧ ∃ t, step (joint .base .parked) = .next t :=
  ⟨⟨fun _ => by decide, rfl⟩, _, rfl⟩

theorem witness_StepsKeepTheTargetInItsWindow :
    let s : State := { joint .pan .engaged with corr := { Correction.reset with targetPrev := 12000 } }
    s.targetFollows ∧ s.node.state = .engaged ∧ 0 < s.gains.blend ∧ isLimited s.setup = true
      ∧ (geoG2 s.setup).min ≤ (geoG2 s.setup).max ∧ ∃ t, step s = .next t :=
  ⟨fun _ _ _ _ => by decide, by decide, by decide, by decide, by decide, _, rfl⟩

theorem witness_FirstCauseStandsUntilFaultIsLeft :
    (∀ a b d e x, Instr.contend ≠ .fullReset a b d e x) ∧ (joint .pan .fault).node.state = .fault
      ∧ ∃ t, exec .contend (joint .pan .fault) = .next t ∧ t.node.state = .fault :=
  ⟨contend_not_reset, rfl, _, rfl, by decide +kernel⟩

theorem witness_SelfcheckAndUnassignedAreLeftByResetAlone :
    (∀ a b d e x, Instr.contend ≠ .fullReset a b d e x)
      ∧ ((joint .pan .selfcheck).captureFollows ∧ (joint .pan .selfcheck).node.state = .selfcheck
        ∧ (joint .pan .selfcheck).outputsFollow
        ∧ ∃ t, exec .contend (joint .pan .selfcheck) = .next t)
      ∧ (State.reset.captureFollows ∧ State.reset.node.state = .unassigned ∧ State.reset.outputsFollow
        ∧ ∃ t, exec .contend State.reset = .next t) :=
  ⟨contend_not_reset, ⟨rfl, rfl, ⟨rfl, rfl, fun _ => rfl⟩, _, rfl⟩, rfl, rfl, ⟨rfl, rfl, fun _ => rfl⟩, _,
    rfl⟩

theorem witness_TablesChangeOnlyInSetup :
    (∀ a b d e x, Instr.contend ≠ .fullReset a b d e x) ∧ (joint .pan .idle).node.state ≠ .setup
      ∧ ∃ t, exec .contend (joint .pan .idle) = .next t :=
  ⟨contend_not_reset, by decide, _, rfl⟩

/-- A node in SELFCHECK with a test running. -/
def checking (test expiries : Nat) (seen : Bool) : State :=
  { joint .pan .selfcheck with
    check := { SelfCheck.start with test := test, expiries := expiries, readingSeen := seen } }

theorem witness_SelfcheckTestsEndAsTheTableGives :
    [(1, 0, false), (2, 0, false), (3, 100, false), (3, 99, false), (4, 0, true), (4, 0, false),
      (5, 0, false), (6, 0, false)].all
      (fun x =>
        let s := checking x.1 x.2.1 x.2.2
        s.node.state == .selfcheck && s.check.status == .running && s.check.test == x.1
          && s.check.expiries == x.2.1 && s.check.readingSeen == x.2.2) = true
    ∧ (let c := { (checking 4 0 false).check with requests := 3, requestTime := 100 };
      3 < c.requests + (((1101 : Time) - c.requestTime).toNat - 1) / 1000
        ∧ c.requests + (((1100 : Time) - c.requestTime).toNat - 1) / 1000 ≤ 3)
    ∧ CheckStatus.passed ≠ .running ∧ (checking 3 99 false).sensor.timer ≠ none
    ∧ still.abandoned = false := by decide

theorem witness_LedPhasesFollowTheDisplay :
    ((joint .pan .setup).node.state = .setup ∧ (joint .pan .setup).ledPhase = 0)
      ∧ ((joint .pan .hold).node.state = .hold
        ∧ ({ joint .pan .hold with ledPhase := 1 } : State).ledPhase = 1)
      ∧ (State.reset.node.state = .unassigned
        ∧ ({ State.reset with ledPhase := 2 } : State).ledPhase = 2)
      ∧ (joint .pan .engaged).node.state = .engaged := by decide

/-- A joint in PARKED with no request in flight. -/
def waiting : State := { joint .tilt .parked with sensor := Sensor.reset 0 }

/-- A joint with two misses behind it. -/
def twoMisses (st : NodeState) : State :=
  { joint .boom st with sensor := { Sensor.reset 0 with inFlight := some request, misses := 2 } }

theorem witness_ReadingsAreCountedAndTaken :
    (waiting.sensor.inFlight = none ∧ waiting.node.state ≠ .selfcheck
        ∧ isJoint waiting.ident.role = true ∧ samples waiting.node.state = true
        ∧ waiting.sensor.timer ≠ none)
      ∧ (isJoint (joint .boom .idle).ident.role = true ∧ samples (joint .boom .idle).node.state = true
        ∧ (joint .boom .idle).sensor.inFlight = some request
        ∧ (joint .boom .idle).sensor.timer ≠ none ∧ still.abandoned = false
        ∧ ({ still with abandoned := true } : SensorReply).abandoned = true)
      ∧ ((twoMisses .parked).ends request badReply ∧ triggerValid badReply = false
        ∧ 2 ≤ (twoMisses .parked).sensor.misses ∧ (twoMisses .parked).node.state ≠ .setup
        ∧ (twoMisses .parked).node.state ≠ .settling ∧ (twoMisses .parked).node.state ≠ .fault)
      ∧ (twoMisses .fault).ends request badReply ∧ (twoMisses .fault).node.state = .fault :=
  ⟨by decide, by decide, ⟨ends_reply _ _ _ (by decide), by decide, by decide, by decide, by decide,
    by decide⟩, ends_reply _ _ _ (by decide), rfl⟩

theorem witness_LiveConsoleSendsItsAim :
    (console .live).ident.role = .console ∧ (console .live).node.state = .live
      ∧ (console .live).sensor.timer ≠ none := by decide

/-- A BOOM with a COMMAND and a REPLY armed. -/
def armedBoom : State :=
  let s := withCommand (.armed commandFrame 1) .idle (joint .boom .idle)
  { s with link := { s.link with slots := { s.link.slots with reply := .armed commandFrame 0 } } }

/-- A link with its COMMAND on the line. -/
def onLine (act : Activity) (succ : Option TxFrame) (s : State) : State :=
  withCommand (.inFlight commandFrame 0 succ) act s

theorem witness_ContentionTakesTheLowestKey :
    (let s := { joint .boom .idle with link := Link.reset };
      s.node.state ≠ .selfcheck ∧ s.node.state ≠ .standby ∧ s.link.line = .unready)
      ∧ (contends armedBoom.node.state = true ∧ armedBoom.link.line = .idle
        ∧ ownFrameOnLine armedBoom.link = false ∧ armedBoom.link.health ≠ .mute
        ∧ slotAt armedBoom.link.slots .command = .armed commandFrame 1
        ∧ ∀ j, isArmed (slotAt armedBoom.link.slots j) = true →
            (slotKey armedBoom .command).toNat ≤ (slotKey armedBoom j).toNat)
      ∧ (∀ j, isArmed (slotAt (joint .boom .idle).link.slots j) = false)
      ∧ (let s := onLine .contending (some commandFrame) (joint .boom .idle);
        s.link.activity = .contending
          ∧ slotAt s.link.slots .command = .inFlight commandFrame 0 (some commandFrame)
          ∧ ∀ j, j ≠ .command → isInFlight (slotAt s.link.slots j) = false) :=
  ⟨by decide, ⟨by decide, by decide, by decide, by decide, rfl, by intro j; cases j <;> decide⟩,
    by intro j; cases j <;> decide, rfl, rfl, by intro j; cases j <;> decide⟩

/-- A link in a health with its error and success counts. -/
def inHealth (h : Health) (errors run : Nat) (s : State) : State :=
  { s with link := { s.link with health := h, errors := errors, successRun := run } }

theorem witness_SuccessSettlesTheSlot :
    let s := inHealth .noisy 0 7 (onLine .sending none (joint .boom .parked))
    s.link.activity = .sending ∧ slotAt s.link.slots .command = .inFlight commandFrame 0 none
      ∧ (∀ j, j ≠ .command → isInFlight (slotAt s.link.slots j) = false) ∧ s.judged
      ∧ s.link.health = .noisy ∧ s.link.successRun = 7 :=
  ⟨rfl, rfl, by intro j; cases j <;> decide, ⟨fun h => absurd h (by decide), fun h => absurd h (by decide)⟩,
    rfl, rfl⟩

theorem witness_TransmitErrorSettlesTheSlot :
    (let s := inHealth .clean 3 0 (onLine .sending none (joint .pan .engaged));
      slotAt s.link.slots .command = .inFlight commandFrame 0 none
        ∧ (∀ j, j ≠ .command → isInFlight (slotAt s.link.slots j) = false)
        ∧ isCoarse s.ident.role = false ∧ s.link.health = .clean ∧ 4 ≤ min 255 (s.link.errors + 1))
      ∧ (let s := inHealth .noisy 15 0 (onLine .sending (some commandFrame) (joint .base .engaged));
        slotAt s.link.slots .command = .inFlight commandFrame 0 (some commandFrame)
        ∧ (∀ j, j ≠ .command → isInFlight (slotAt s.link.slots j) = false)
        ∧ isCoarse s.ident.role = true ∧ s.node.state = .engaged ∧ s.link.health = .noisy
        ∧ 16 ≤ min 255 (s.link.errors + 1)) :=
  ⟨⟨rfl, by intro j; cases j <;> decide, rfl, rfl, by decide⟩,
    ⟨rfl, by intro j; cases j <;> decide, rfl, rfl, rfl, by decide⟩⟩

/-- A frame whose end condition came early. -/
def cutFrame : RawFrame := { key := 0, length := 2, payload := [1, 0], check := 0, endOk := false }

/-- A joint in a node state in MUTE at reception run 63. -/
def muted (r : Role) (st : NodeState) : State :=
  { joint r st with link := { (joint r st).link with health := .mute, receptionRun := 63 } }

theorem witness_ReceptionsAreCounted :
    (cutFrame.payload.length = cutFrame.length.toNat ∧ judgeFrame cutFrame = none)
      ∧ ((muted .pan .engaged).node.state ≠ .selfcheck ∧ (muted .pan .engaged).node.state ≠ .standby
        ∧ (muted .pan .engaged).link.line ≠ .unready
        ∧ ownFrameOnLine (muted .pan .engaged).link = false
        ∧ (muted .pan .engaged).link.health = .mute ∧ (muted .pan .engaged).link.receptionRun = 63)
      ∧ ((joint .boom .unassigned).node.state = .unassigned
        ∧ (joint .boom .unassigned).link.line ≠ .unready
        ∧ ownFrameOnLine (joint .boom .unassigned).link = false)
      ∧ ((muted .pan .engaged).hearing ∧ (1 : Addr) ≠ (muted .pan .engaged).ident.address)
      ∧ ((joint .boom .parked).hearing ∧ (2 : Addr) = (joint .boom .parked).ident.address
        ∧ (joint .boom .parked).node.state ≠ .fault)
      ∧ (joint .boom .fault).hearing ∧ (joint .boom .fault).node.state = .fault :=
  ⟨⟨rfl, by decide +kernel⟩, by decide, by decide, ⟨hearing_of _ (by decide), by decide⟩,
    ⟨hearing_of _ (by decide), by decide, by decide⟩, hearing_of _ (by decide), rfl⟩

theorem witness_StopsActByTheState :
    ((joint .boom .homing).hearing ∧ (3 : Addr) ≠ (joint .boom .homing).ident.address)
      ∧ ((joint .roll .setup).ident.role = .roll ∧ (joint .roll .setup).node.state = .setup
        ∧ (joint .pan .fault).node.state = .fault ∧ (joint .pan .fault).link.slots.stop = .empty)
      ∧ (let s : State := { joint .pan .engaged with
            link := { (joint .pan .engaged).link with
              slots := { Slots.empty with stop := .armed commandFrame 0 } } };
        s.ident.role = .pan ∧ s.node.state = .engaged ∧ s.link.slots.stop ≠ .empty)
      ∧ ((console .live).ident.role = .console ∧ (console .live).node.state = .live
        ∧ (console .fault).node.state = .fault)
      ∧ ((console .setup).node.state ≠ .live ∧ (console .setup).node.state ≠ .fault
        ∧ (console .setup).ident.role = .console ∧ (joint .pan .standby).node.state = .standby) :=
  ⟨⟨hearing_of _ (by decide), by decide⟩, by decide, by decide, by decide, by decide⟩

theorem witness_AimAndVehicleFramesAreFiled :
    (joint .base .parked).hearing ∧ (6 : Addr).toNat = (6 : Fin 7).val
      ∧ (6 : Addr) ≠ (joint .base .parked).ident.address ∧ (joint .base .parked).ident.role = .base :=
  ⟨hearing_of _ (by decide), by decide, by decide, rfl⟩

/-- A joint in SETUP with nothing taken. -/
def fresh (r : Role) : State := { joint r .setup with setup := Setup.reset }

/-- A TILT in a node state, on page 0, whose regime 3 names page 5, with a regime in use. -/
def switching (st : NodeState) (regime : Option Regime) : State :=
  { joint .tilt st with gains := { (joint .tilt st).gains with
      regime := regime
      entries := GainDir.reset.entries.set 3 { present := true, page := 5, visited := false }
      pages := (GainDir.reset.pages.set 0 page0).set 5 page0 } }

theorem witness_VehicleFramesCarryTheRegime :
    let age (p : VehiclePayload) : Int := ((1100 : Time) - 1000).toInt + (p.age.toNat : Int)
    (let s := switching .parked none;
      s.hearing ∧ (1 : Addr).toNat = (1 : Fin 7).val ∧ (1 : Addr) ≠ s.ident.address
        ∧ isJoint s.ident.role = true ∧ s.ident.role ≠ .base ∧ s.gains.page.isSome = true
        ∧ directoryRuns s.node.state = true ∧ age (vehicleAt 3) < 20000
        ∧ (vehicleAt 3).regime = BitVec.ofNat 8 (3 : Regime).val ∧ (vehicleAt 3).pendingPresent = false
        ∧ s.gains.regime ≠ some 3 ∧ (∀ due, s.gains.pending ≠ some ((3 : Regime), due))
        ∧ chosenPage s.gains 3 = 5 ∧ s.gains.page ≠ some 5 ∧ chosenPage s.gains 4 = 0)
      ∧ ((switching .engaged none).hearing ∧ directoryRuns (switching .engaged none).node.state = true)
      ∧ (switching .parked (some 3)).gains.regime = some 3
      ∧ ({ vehicleAt 3 with pendingPresent := true, pendingRegime := 31 } : VehiclePayload).pendingRegime
          = BitVec.ofNat 8 (31 : Regime).val
      ∧ 20000 ≤ age { vehicleAt 3 with age := 19900 }
      ∧ ((fresh .tilt).hearing ∧ directoryRuns (fresh .tilt).node.state = false
        ∧ ({ GainDir.reset with pending := none } : GainDir).page = none)
      ∧ 32 ≤ (vehicleAt 255).regime.toNat :=
  ⟨⟨hearing_of _ (by decide), by decide, by decide, by decide, by decide, by decide, by decide, by decide,
      rfl, rfl, by decide, (fun _ h => nomatch h), by decide +kernel⟩,
    ⟨hearing_of _ (by decide), by decide⟩, rfl, rfl, by decide, ⟨hearing_of _ (by decide), by decide⟩,
    by decide⟩

theorem witness_ReportFramesAreFiled :
    ((joint .boom .parked).hearing ∧ (1 : Addr).toNat = (1 : Fin 7).val
        ∧ (1 : Addr) ≠ (joint .boom .parked).ident.address)
      ∧ (isJoint (joint .boom .parked).ident.role = true
        ∧ (reportOf 2).role.toNat = roleCode (joint .boom .parked).ident.role
        ∧ (1 : Fin 7).val < (joint .boom .parked).ident.address.toNat)
      ∧ ¬ (reportOf 3).role.toNat = roleCode (joint .boom .parked).ident.role :=
  ⟨⟨hearing_of _ (by decide), by decide, by decide⟩, by decide, by decide⟩

theorem witness_PartnersAndPartsAreSelected :
    (joint .boom .idle).ends request reply
      ∧ (joint .boom .idle).hearing ∧ (4 : Addr).toNat = (4 : Fin 7).val
      ∧ (4 : Addr) ≠ (joint .boom .idle).ident.address
      ∧ isJoint .pan = true ∧ [Role.blank, .console, .invalid].all (fun r => !isJoint r) = true :=
  ⟨ends_reply _ _ _ (by decide), hearing_of _ (by decide), by decide, by decide, by decide⟩

/-- A BOOM whose fine partner at address 4, in ENGAGED, does not name it in its hears set. -/
def unheard (st : NodeState) : State :=
  { joint .boom st with
    peers := { Peers.reset with
      partner := some 4
      entries := Peers.reset.entries.set 4 { PeerEntry.empty with
        report := some { content := { reportOf 4 with state := 5 }, capture := 1000, age := 0, lastSeq := 0, fresh := .fresh }
        role := some 4 } } }

/-- A BOOM whose partner address is 4, with nothing heard from there. -/
def partnered (st : NodeState) : State :=
  { joint .boom st with peers := { Peers.reset with partner := some 4 } }

theorem witness_HoldCausesStopACoarseJoint :
    ((partnered .engaged).hearing ∧ (4 : Addr).toNat = (4 : Fin 7).val
        ∧ (4 : Addr) ≠ (partnered .engaged).ident.address
        ∧ ¬ ({ reportOf 4 with state := 5 } : ReportPayload).role.toNat = roleCode (partnered .engaged).ident.role
        ∧ (partnered .engaged).node.state = .engaged
        ∧ ∃ t, exec (.reportFrame 4 { reportOf 4 with state := 5 } 1000 1100) (partnered .engaged) = .next t
            ∧ holdCause { (partnered .engaged).heard 1100 with peers := t.peers } = true)
      ∧ (partnered .hold).hearing
      ∧ ((unheard .engaged).ends request reply ∧ triggerValid reply = true
        ∧ anyTripped (unheard .engaged) = false ∧ (unheard .engaged).node.state = .engaged
        ∧ holdCause { unheard .engaged with
            peers := evaluatePeers .boom request.sampleTime (unheard .engaged).peers } = true)
      ∧ (let s : State := { joint .pan .hold with node := { (joint .pan .hold).node with holdExit := 48 } };
        s.ends request reply ∧ anyTripped s = false ∧ s.node.state = .hold ∧ s.node.holdExit < 49) :=
  ⟨⟨hearing_of _ (by decide), by decide, by decide, by decide, by decide, _, rfl, by decide +kernel⟩,
    hearing_of _ (by decide), ⟨ends_reply _ _ _ (by decide), by decide, by decide, by decide,
      by decide +kernel⟩, ends_reply _ _ _ (by decide), by decide, by decide, by decide⟩

/-- The test COMMAND names every test state but one at address 7. -/
theorem addressed_joint (r : Role) (st : NodeState) : (joint r st).addressed toAll :=
  ⟨show (7 : Addr) ≠ 2 by decide, .inr rfl⟩

theorem witness_HomeParkAndEngageMoveTheNode :
    ((joint .boom .idle).hearing ∧ (joint .boom .idle).addressed toAll
        ∧ isJoint (joint .boom .idle).ident.role = true ∧ (joint .boom .idle).node.state = .idle)
      ∧ ((muted .pan .engaged).hearing ∧ (muted .pan .engaged).addressed toAll
        ∧ (muted .pan .engaged).node.state = .engaged)
      ∧ ((joint .pan .hold).hearing ∧ (joint .pan .hold).addressed toAll
        ∧ (joint .pan .hold).node.state = .hold)
      ∧ ((joint .pan .parking).hearing ∧ (joint .pan .parking).addressed toAll
        ∧ (joint .pan .parking).node.state = .parking)
      ∧ ((joint .pan .parked).hearing ∧ (joint .pan .parked).addressed toAll
        ∧ (joint .pan .parked).node.state = .parked
        ∧ holdCause ((joint .pan .parked).heard 0) = false)
      ∧ ((unheard .parked).hearing ∧ (unheard .parked).addressed toAll
        ∧ (unheard .parked).node.state = .parked ∧ holdCause ((unheard .parked).heard 0) = true) :=
  ⟨⟨hearing_of _ (by decide), addressed_joint _ _, by decide, by decide⟩,
    ⟨hearing_of _ (by decide), ⟨by decide, .inr rfl⟩, by decide⟩,
    ⟨hearing_of _ (by decide), addressed_joint _ _, by decide⟩,
    ⟨hearing_of _ (by decide), addressed_joint _ _, by decide⟩,
    ⟨hearing_of _ (by decide), addressed_joint _ _, by decide, by decide⟩,
    hearing_of _ (by decide +kernel), ⟨by decide, .inr rfl⟩, by decide, by decide +kernel⟩

theorem witness_ClearLeavesFaultByTheTable :
    (joint .boom .fault).hearing ∧ (joint .boom .fault).addressed toAll
      ∧ (joint .boom .fault).node.state = .fault :=
  ⟨hearing_of _ (by decide), addressed_joint _ _, rfl⟩

theorem witness_ClearMarksAndStandbyAreTaken :
    (joint .boom .parked).hearing ∧ (joint .boom .parked).addressed toAll
      ∧ isJoint (joint .boom .parked).ident.role = true ∧ (joint .boom .parked).node.state = .parked
      ∧ toAll.auth = (joint .boom .parked).ident.auth
      ∧ ({ toAll with auth := 0 } : CommandArgs).auth ≠ (joint .boom .parked).ident.auth :=
  ⟨hearing_of _ (by decide), addressed_joint _ _, by decide, by decide, by decide, by decide⟩

theorem witness_UntakenCommandsAreCounted :
    ((joint .boom .setup).hearing ∧ (joint .boom .setup).addressed toAll
        ∧ isJoint (joint .boom .setup).ident.role = true ∧ (joint .boom .setup).node.state = .setup)
      ∧ ((console .live).hearing ∧ (console .live).addressed toAll
        ∧ (console .live).ident.role = .console ∧ (console .live).node.state = .live)
      ∧ (console .setup).node.state ≠ .live :=
  ⟨⟨hearing_of _ (by decide), addressed_joint _ _, by decide, by decide⟩,
    ⟨hearing_of _ (by decide), ⟨by decide, .inr rfl⟩, by decide, by decide⟩, by decide⟩

theorem fresh_hears (r : Role) (a b c d : Half) :
    (fresh r).hearing ∧ (fresh r).tooled (item a b c d) ∧ (fresh r).node.state = .setup :=
  ⟨hearing_of _ (by cases r <;> decide), ⟨show (7 : Addr) ≠ 2 by decide, rfl, rfl⟩, rfl⟩

/-- A CONSOLE in SETUP at address 2 with nothing taken. -/
def freshConsole : State := fresh .console

theorem witness_ItemsInRangeAreTaken :
    ((fresh .boom).hearing ∧ (fresh .boom).tooled (item 1 1 0 0) ∧ (fresh .boom).node.state = .setup)
      ∧ isJoint (fresh .boom).ident.role = true ∧ (fresh .boom).setup.phase ≤ 1
      ∧ (1 ≤ (item 1 1 0 0).v1.toNat ∧ (item 1 1 0 0).v2.toNat ≤ 1)
      ∧ (((item 0x8000 0x7FFF 0 0).v3 = 0
          ∧ (item 0x8000 0x7FFF 0 0).v1.toInt < (item 0x8000 0x7FFF 0 0).v2.toInt)
        ∧ ∀ g, (fresh .boom).setup.items.g3 = some g → (item 0x8000 0x7FFF 0 0).v3 = 0 →
          (item 0x8000 0x7FFF 0 0).v1.toInt ≤ g.park ∧ g.park ≤ (item 0x8000 0x7FFF 0 0).v2.toInt)
      ∧ ((item 8192 0 0 0).v1.toNat ≤ 8192
        ∧ ∀ g, (fresh .boom).setup.items.g2 = some g → g.continuous = false →
          g.min ≤ (item 8192 0 0 0).v2.toInt ∧ (item 8192 0 0 0).v2.toInt ≤ g.max)
      ∧ ((item 0 1 4000 8000).v2.toNat ≤ 1 ∧ 1 ≤ (item 0 1 4000 8000).v3.toNat
        ∧ (item 0 1 4000 8000).v3.toNat ≤ 4000 ∧ 1 ≤ (item 0 1 4000 8000).v4.toNat
        ∧ (item 0 1 4000 8000).v4.toNat ≤ 8000)
      ∧ (1 ≤ (item 1024 0 0 0).v1.toNat ∧ (item 1024 0 0 0).v1.toNat ≤ 1024)
      ∧ (((fresh .roll).hearing ∧ (fresh .roll).tooled (item 4095 255 7 7)
          ∧ (fresh .roll).node.state = .setup)
        ∧ (isJoint (fresh .roll).ident.role = true ∧ (fresh .roll).setup.phase ≤ 2
          ∧ (item 4095 1023 32767 4096).v1.toNat ≤ 4095 ∧ (item 4095 1023 32767 4096).v2.toNat ≤ 1023
          ∧ (item 4095 1023 32767 4096).v3.toNat ≤ 32767 ∧ 1 ≤ (item 4095 1023 32767 4096).v4.toNat
          ∧ (item 4095 1023 32767 4096).v4.toNat ≤ 4096)
        ∧ (item 4095 255 7 7).v2.toNat ≤ 255
        ∧ ((item 7 255 0 7).v1.toNat < 8 ∧ (item 7 255 0 7).v2.toNat = 255
          ∧ (item 7 255 0 7).v3.toNat < 8 ∧ (item 7 255 0 7).v4.toNat < 8))
      ∧ ((freshConsole.hearing ∧ freshConsole.tooled (item 16384 16384 0 0)
          ∧ freshConsole.node.state = .setup)
        ∧ (freshConsole.ident.role = .console ∧ freshConsole.setup.phase ≤ 1
          ∧ (item 16384 16384 0 0).v1.toNat ≤ 16384 ∧ (item 16384 16384 0 0).v2.toNat ≤ 16384))
      ∧ (((fresh .base).hearing ∧ (fresh .base).tooled (item 1000 1000 1000 1000)
          ∧ (fresh .base).node.state = .setup)
        ∧ ((fresh .base).ident.role = .base ∧ (fresh .base).setup.phase ≤ 4
          ∧ 1 ≤ (item 1000 1000 1000 1000).v1.toNat ∧ (item 1000 1000 1000 1000).v1.toNat ≤ 1000
          ∧ (item 1000 1000 1000 1000).v4.toNat ≤ 1000)) :=
  ⟨fresh_hears _ _ _ _ _, by decide, by decide, by decide, ⟨by decide, fun _ h => nomatch h⟩,
    ⟨by decide, fun _ h => nomatch h⟩, by decide, by decide,
    ⟨fresh_hears _ _ _ _ _, by decide, by decide, by decide⟩, ⟨fresh_hears _ _ _ _ _, by decide⟩,
    fresh_hears _ _ _ _ _, by decide⟩

/-- R136, R183: the first half of page 5 leaves it absent, the second makes it present with its gains, and
PAGE_A given again replaces them; a row gives its entries at once, and no other. -/
theorem test_present_once_taken :
    let s := fresh .boom
    leads (.setupPageB 5 (item 7 3 0 0) 1500) s (fun t => !t.gains.pages[(5 : PageNo)].present
        && leads (.setupPageA 5 (item 1 2 3 4) 1600) t (fun u => u.gains.pages[(5 : PageNo)] ==
          { Page.absent with present := true
                             gains := { kp := 1, kd := 2, lr := 3, la := 4, alpha := 7, rho := 3 } })) = true
      ∧ leads (.setupDirectory 1 (item 255 0 5 255) 1500) s (fun t =>
          ((List.finRange 32).filter (fun r => t.gains.entries[r].present)).map (·.val) == [5, 6]
            && t.gains.entries[(6 : Regime)].page == 5) = true := by decide +kernel

/-- A joint in SETUP with phase 4 open. -/
def lateBase : State := { joint .base .setup with setup := { Setup.reset with phase := 4 } }

theorem witness_SetupRefusalsKeepTheItems :
    ((joint .boom .idle).hearing ∧ (item 0 0 0 0).src ≠ (joint .boom .idle).ident.address
        ∧ (item 0 0 0 0).target.toNat = (joint .boom .idle).ident.address.toNat
        ∧ (joint .boom .idle).node.state ≠ .setup)
      ∧ ((fresh .boom).hearing ∧ ({ item 0 0 0 0 with auth := 0 } : SetupArgs).auth ≠ (fresh .boom).ident.auth)
      ∧ ((fresh .boom).node.state = .setup ∧ (item 0 0 0 0).auth = (fresh .boom).ident.auth
        ∧ itemOfCode 0 = none ∧ (fresh .boom).ident.role ≠ .console ∧ (fresh .boom).ident.role ≠ .base)
      ∧ (isJoint freshConsole.ident.role = false)
      ∧ (lateBase.hearing ∧ isJoint lateBase.ident.role = true ∧ 3 < lateBase.setup.phase)
      ∧ (({ freshConsole with setup := { Setup.reset with phase := 2 } } : State).ident.role = .console
        ∧ 1 < ({ freshConsole with setup := { Setup.reset with phase := 2 } } : State).setup.phase)
      ∧ (isJoint (fresh .boom).ident.role = true ∧ (fresh .boom).setup.phase ≤ 1
        ∧ (item 0 0 0 0).v1 = 0 ∧ 1 < (item 0 0 2 0).v3.toNat ∧ 8192 < (item 8193 0 0 0).v1.toNat
        ∧ 1 < (item 0 2 0 0).v2.toNat ∧ 1024 < (item 1025 0 0 0).v1.toNat
        ∧ 4095 < (item 4096 0 0 0).v1.toNat ∧ 255 < (item 0 256 0 0).v2.toNat)
      ∧ (freshConsole.setup.phase ≤ 1 ∧ 16384 < (item 16385 0 0 0).v1.toNat)
      ∧ (∃ v ∈ [(item 8 0 0 0).v1, (item 8 0 0 0).v2], 7 < v.toNat ∧ v.toNat ≠ 255)
      ∧ (lateBase.ident.role = .base ∧ lateBase.setup.phase ≤ 4 ∧ 1000 < (item 1001 0 0 0).v1.toNat)
      ∧ (let s : State := { fresh .boom with
            setup := { Setup.reset with items := { Items.none with
              g2 := some { min := 0, max := 10, continuous := false } } } };
        s.setup.phase ≤ 1 ∧ s.setup.items.g2 = some { min := 0, max := 10, continuous := false }
          ∧ (10 : Int) < (item 0 11 0 0).v2.toInt)
      ∧ (let s : State := { fresh .boom with
            setup := { Setup.reset with items := { Items.none with
              g3 := some { cushion := 0, park := 11 } } } };
        s.hearing ∧ s.setup.phase ≤ 1 ∧ s.setup.items.g3 = some { cushion := 0, park := 11 }
          ∧ (item 0 10 0 0).v3 = 0 ∧ (item 0 10 0 0).v2.toInt < 11
          ∧ (item 0 10 0 0).v1.toInt < (item 0 10 0 0).v2.toInt) :=
  ⟨⟨hearing_of _ (by decide), by decide, by decide, by decide⟩,
    ⟨(fresh_hears _ 0 0 0 0).1, by decide⟩, by decide, by decide,
    ⟨hearing_of _ (by decide), by decide, by decide⟩, by decide, by decide, by decide,
    ⟨8, by decide, by decide⟩, by decide, by decide, hearing_of _ (by decide), by decide⟩

/-- Items complete for a joint, with one page and one directory row. -/
def wholeItems : Items :=
  { boomItems with
    pageA := Items.none.pageA.set 0 (some { kp := 512, kd := 128, lr := 4000, la := 64 })
    pageB := Items.none.pageB.set 0 (some { alpha := 2048, rho := 32 })
    dir := Items.none.dir.set 0 (some { d0 := some 0, d1 := none, d2 := none, d3 := none }) }

/-- Items complete for a CONSOLE. -/
def consoleItems : Items :=
  { Items.none with
    c1 := some Axes.zero
    c2 := some { pitchLimit := 0, rollLimit := 0, beta := 0 } }

/-- BASE's thresholds, ascending or not. -/
def baseItems (s1 s2 : Nat) : Items :=
  { wholeItems with
    t1 := some { pulse := 250, s1 := s1, s2 := s2, s3 := 30 }
    t2 := some { s4 := 40, s5 := 50, s6 := 60, s7 := 70 }
    t3 := some { r1 := 1, r2 := 2, r3 := 3 } }

/-- A node in SETUP with items taken. -/
def withItems (r : Role) (i : Items) : State :=
  { joint r .setup with setup := { Setup.reset with phase := 3, items := i } }

theorem witness_CommitPutsTheSetupInUse :
    ((fresh .boom).hearing ∧ (fresh .boom).tooled (item 0 0 0 0) ∧ (fresh .boom).node.state = .setup
        ∧ isJoint (fresh .boom).ident.role = true ∧ (fresh .boom).setup.items.g1.isSome = false)
      ∧ ((withItems .base (baseItems 20 10)).hearing
        ∧ (withItems .base (baseItems 20 10)).tooled (item 0 0 0 0)
        ∧ complete .base (baseItems 20 10) = true ∧ (20 : Nat) ≥ 10)
      ∧ ((withItems .boom wholeItems).hearing ∧ (withItems .boom wholeItems).tooled (item 0 0 0 0)
        ∧ isJoint (withItems .boom wholeItems).ident.role = true
        ∧ complete .boom wholeItems = true
        ∧ wholeItems.pageA[(0 : PageNo)] = some { kp := 512, kd := 128, lr := 4000, la := 64 }
        ∧ wholeItems.pageB[(0 : PageNo)] = some { alpha := 2048, rho := 32 }
        ∧ wholeItems.pageA[(7 : PageNo)] = none ∧ wholeItems.pageB[(7 : PageNo)] = none
        ∧ wholeItems.dir[(0 : Fin 8)] = some { d0 := some 0, d1 := none, d2 := none, d3 := none })
      ∧ ((withItems .console consoleItems).hearing
        ∧ (withItems .console consoleItems).tooled (item 0 0 0 0)
        ∧ (withItems .console consoleItems).ident.role = .console
        ∧ complete .console consoleItems = true) :=
  ⟨⟨(fresh_hears _ 0 0 0 0).1, (fresh_hears _ 0 0 0 0).2.1, by decide, by decide, by decide⟩,
    ⟨hearing_of _ (by decide), ⟨by decide, by decide, by decide⟩, by decide +kernel, by decide⟩,
    ⟨hearing_of _ (by decide), ⟨by decide, by decide, by decide⟩, by decide, by decide +kernel,
      by decide +kernel, by decide +kernel, by decide +kernel, by decide +kernel, by decide +kernel⟩,
    hearing_of _ (by decide), ⟨by decide, by decide, by decide⟩, by decide, by decide +kernel⟩

theorem witness_StationItemsAreAnswered :
    ((muted .pan .engaged).hearing ∧ (muted .pan .engaged).asked (ask 2 0) ∧ (ask 2 0).part = 0)
      ∧ ((joint .boom .idle).hearing ∧ (joint .boom .idle).asked (ask 2 7) ∧ (ask 2 7).part ≠ 0
        ∧ 2 ≤ (ask 2 2).part.toNat)
      ∧ (freshConsole.hearing ∧ freshConsole.asked (ask 2 1) ∧ (ask 2 1).part = 1
        ∧ isJoint freshConsole.ident.role = false)
      ∧ ((0 : BitVec 5) = 0 ∧ 16 < (17 : BitVec 5).toNat) :=
  ⟨⟨hearing_of _ (by decide), ⟨by decide, by decide⟩, by decide⟩,
    ⟨hearing_of _ (by decide), ⟨by decide, by decide⟩, by decide, by decide⟩,
    ⟨(fresh_hears _ 0 0 0 0).1, ⟨by decide, by decide⟩, by decide, by decide⟩, by decide⟩

theorem witness_JointItemsAreAnswered :
    ((joint .boom .idle).hearing ∧ (joint .boom .idle).asked (ask 2 0)
        ∧ isJoint (joint .boom .idle).ident.role = true ∧ (ask 2 0).part = 0)
      ∧ ((joint .boom .idle).asked (ask 2 1) ∧ (ask 2 1).part = 1 ∧ (ask 2 1).part ≠ 0)
      ∧ ((joint .boom .idle).asked (ask 2 2) ∧ 2 ≤ (ask 2 2).part.toNat)
      ∧ (freshConsole.hearing ∧ freshConsole.asked (ask 2 0) ∧ isJoint freshConsole.ident.role = false) :=
  ⟨⟨hearing_of _ (by decide), ⟨by decide, by decide⟩, by decide, by decide⟩,
    ⟨⟨by decide, by decide⟩, by decide, by decide⟩, ⟨⟨by decide, by decide⟩, by decide⟩,
    (fresh_hears _ 0 0 0 0).1, ⟨by decide, by decide⟩, by decide⟩

theorem witness_ArmingFollowsTheSlot :
    SlotKind.reply ≠ .stop
      ∧ slotAt Link.reset.slots .reply = .empty
      ∧ slotAt armedBoom.link.slots .reply = .armed commandFrame 0
      ∧ slotAt (onLine .sending none (joint .boom .idle)).link.slots .command = .inFlight commandFrame 0 none
      ∧ slotAt (onLine .sending (some commandFrame) (joint .boom .idle)).link.slots .command
          = .inFlight commandFrame 0 (some commandFrame) := by decide

theorem witness_WakeTakesTheWakeValues :
    ((joint .pan .standby).node.state = .standby ∧ (joint .pan .standby).ident.role ≠ .console
        ∧ (console .standby).node.state = .standby ∧ (console .standby).ident.role = .console)
      ∧ (State.reset.node.state ≠ .standby ∧ State.reset.link.line ≠ .idle)
      ∧ (armedBoom.node.state ≠ .standby ∧ armedBoom.node.state ≠ .selfcheck
        ∧ armedBoom.link.line = .idle ∧ ownFrameOnLine armedBoom.link = false
        ∧ contends armedBoom.node.state = true ∧ armedBoom.link.health ≠ .mute
        ∧ isArmed (slotAt armedBoom.link.slots .command) = true)
      ∧ ((joint .boom .unassigned).node.state ≠ .selfcheck ∧ (joint .boom .unassigned).link.line = .idle
        ∧ ownFrameOnLine (joint .boom .unassigned).link = false
        ∧ contends (joint .boom .unassigned).node.state = false) := by decide

theorem witness_EncoderEventsCount :
    homingBoom.ident.role ≠ .console ∧ homingBoom.node.homed = false
      ∧ homingBoom.sensor.indexArmed = true ∧ homingBoom.node.state = .homing
      ∧ (let s : State := { joint .boom .parked with node := { (joint .boom .parked).node with homed := true } };
        s.ident.role ≠ .console ∧ s.node.homed = true ∧ samples s.node.state = true
          ∧ s.node.state ≠ .fault ∧ s.sensor.indexArmed = false)
      ∧ (let s : State := { joint .boom .fault with node := { (joint .boom .fault).node with homed := true } };
        s.ident.role ≠ .console ∧ s.node.homed = true ∧ s.node.state = .fault) := by decide

theorem witness_DriveInputsActByTheState :
    (homingBoom.ident.role ≠ .console ∧ homingBoom.drive.maxTripped = false
        ∧ isLimited homingBoom.setup = true ∧ homingBoom.node.state = .homing
        ∧ homingBoom.drive.home = some { up := true, reversals := 0, count := 0 }
        ∧ ((true = true) ↔ EndSwitch.max = .max) ∧ homingBoom.drive.driveFault = false)
      ∧ ((joint .boom .engaged).ident.role ≠ .console ∧ (joint .boom .engaged).drive.minTripped = false
        ∧ isLimited (joint .boom .engaged).setup = true ∧ (joint .boom .engaged).node.state = .engaged
        ∧ (joint .boom .engaged).drive.driveFault = false)
      ∧ ((joint .boom .idle).ident.role ≠ .console ∧ (joint .boom .idle).node.state = .idle
        ∧ (joint .boom .idle).drive.minTripped = false ∧ (joint .boom .idle).drive.driveFault = false)
      ∧ ((joint .boom .hold).node.state = .hold ∧ isLimited (joint .boom .hold).setup = true)
      ∧ (let s : State := { joint .boom .parking with drive := { Drive.reset false false false with
            enable := true, brake := false, lastCommand := -1 } };
        s.node.state = .parking ∧ isLimited s.setup = true ∧ s.drive.lastCommand < 0
          ∧ s.drive.minTripped = false)
      ∧ (let s : State := { homingBoom with drive := { homingBoom.drive with
            home := some { up := true, reversals := 1, count := 0 } } };
        s.node.state = .homing ∧ s.drive.home = some { up := true, reversals := 1, count := 0 }
          ∧ s.drive.maxTripped = false) := by
  decide

theorem witness_SpeedEdgesGiveTheSpeed :
    (joint .base .parked).ident.role = .base
      ∧ regimeRuns (joint .base .parked).setup.committed (joint .base .parked).node.state = true := by
  decide

theorem witness_HandwheelsAndButtonsAct :
    ((console .live).ident.role = .console ∧ (console .live).node.state ≠ .standby
        ∧ (console .live).node.state = .live ∧ (console .live).console.engageLevel = false
        ∧ (console .live).console.parkLevel = false)
      ∧ (console .setup).node.state ≠ .live := by decide

theorem witness_SamplesKeepTheirFrame :
    (joint .boom .idle).ends request reply
      ∧ (Instr.rateSensorReply still 1500 ∈ ([] : List Instr)
        ∨ (∃ m, reply = .expiry m ∧ Instr.rateSensorReply still 1500 = .sampleTimerExpiry m 1500)
        ∨ ∃ r, reply = .reply r ∧ Instr.rateSensorReply still 1500 = .rateSensorReply r 1500)
      ∧ ∃ t, exec (.rateSensorReply still 1500) (joint .boom .idle) = .next t :=
  ⟨ends_reply _ _ _ (by decide), .inr (.inr ⟨_, rfl, rfl⟩), _, rfl⟩

theorem witness_SamplesFormAngleRateAndOffset :
    ((joint .boom .idle).ends request reply ∧ (joint .boom .idle).link.slots.report = .empty
        ∧ (joint .boom .idle).setup.committed = true ∧ (joint .boom .idle).node.state ≠ .setup)
      ∧ ((fresh .boom).ends request reply ∧ (fresh .boom).node.state = .setup
        ∧ (fresh .boom).link.slots.report = .empty)
      ∧ (let s := { joint .boom .fault with setup := Setup.reset };
        s.ends request reply ∧ s.node.state = .fault ∧ s.setup.committed = false
          ∧ s.link.slots.report = .empty) :=
  ⟨⟨ends_reply _ _ _ (by decide), by decide, by decide, by decide⟩,
    ⟨ends_reply _ _ _ (by decide), by decide, by decide⟩, ends_reply _ _ _ (by decide), by decide⟩

/-- A joint in SETTLING with a run of n readings and a settling count. -/
def settlingAt (n count : Nat) : State :=
  { joint .boom .settling with
    sensor := { Sensor.reset 0 with
      inFlight := some request, settling := count
      run := some { anchor := Axes.zero, acc := Axes.zero, n := n } } }

theorem witness_BiasCapturesEnd :
    ((settlingAt 2047 0).ends request reply ∧ (settlingAt 2047 0).node.state = .settling
        ∧ (settlingAt 2047 0).sensor.run = some { anchor := Axes.zero, acc := Axes.zero, n := 2047 }
        ∧ replyValid still = true ∧ replyRates still = Axes.zero
        ∧ stillBand (settlingAt 2047 0).setup = 40)
      ∧ ((settlingAt 255 29999).ends request reply ∧ (settlingAt 255 29999).sensor.settling = 29999
        ∧ (settlingAt 255 29999).sensor.run = some { anchor := Axes.zero, acc := Axes.zero, n := 255 })
      ∧ ((settlingAt 254 29999).ends request reply
        ∧ ∀ (r : SensorReply) (x : Run), reply = .reply r → (settlingAt 254 29999).sensor.run = some x →
            x.n < 255)
      ∧ ((settlingAt 5 0).ends request badReply ∧ (settlingAt 5 0).sensor.settling < 29999
        ∧ triggerValid badReply = false)
      ∧ ((joint .boom .settling).ends request reply ∧ (joint .boom .settling).sensor.run = none
        ∧ (joint .boom .settling).sensor.settling < 29999)
      ∧ ((settlingAt 5 29998).ends request reply ∧ (settlingAt 5 29998).sensor.settling < 29999
        ∧ (settlingAt 5 29998).sensor.run = some { anchor := Axes.zero, acc := Axes.zero, n := 5 }
        ∧ ((settlingAt 5 29998).ends request (.reply { still with pitch := 0xFF0000 })
          ∧ replyValid { still with pitch := 0xFF0000 } = true
          ∧ 40 < (replyRates { still with pitch := 0xFF0000 }).pitch.natAbs)) :=
  ⟨⟨ends_reply _ _ _ (by decide), by decide, by decide, by decide, by decide⟩,
    ⟨ends_reply _ _ _ (by decide), by decide, by decide⟩, ⟨ends_reply _ _ _ (by decide), by
      intro r x _ h
      cases h
      decide⟩,
    ⟨ends_reply _ _ _ (by decide), by decide, by decide⟩,
    ⟨ends_reply _ _ _ (by decide), by decide, by decide⟩,
    ends_reply _ _ _ (by decide), by decide, by decide, ends_reply _ _ _ (by decide), by decide,
    by decide⟩

/-- A BOOM in HOMING on a search at a homing count, its max switch and DRIVE_FAULT as given. -/
def homingAt (reversals count : Nat) (tripped faulty : Bool) : State :=
  { homingBoom with drive := { homingBoom.drive with
      home := some { up := true, reversals := reversals, count := count }
      maxTripped := tripped, driveFault := faulty } }

/-- Whether a state's HOMING sample has what every clause needs, with a move, a switch and an input. -/
def homesAt (m : HomeMove) (tripped faulty : Bool) (s : State) : Bool :=
  isJoint s.ident.role && samples s.node.state && s.sensor.inFlight == some request
    && s.node.state == .homing && s.drive.home == some m && !(geoG2 s.setup).continuous
    && s.drive.maxTripped == tripped && s.drive.driveFault == faulty
    && decide (0 ≤ s.gains.pages[(0 : PageNo)].gains.la) && s.link.slots.report == .empty

theorem witness_HomingSamplesSearch :
    ((homingAt 0 0 false false).ends request reply ∧ triggerValid reply = true)
      ∧ homesAt ⟨true, 0, 0⟩ false false (homingAt 0 0 false false) = true
      ∧ homesAt ⟨true, 0, 59998⟩ true false (homingAt 0 59998 true false) = true
      ∧ homesAt ⟨true, 1, 59998⟩ true false (homingAt 1 59998 true false) = true
      ∧ homesAt ⟨true, 0, 59999⟩ false false (homingAt 0 59999 false false) = true
      ∧ homesAt ⟨true, 0, 0⟩ false true (homingAt 0 0 false true) = true
      ∧ homesAt ⟨true, 1, 0⟩ true true (homingAt 1 0 true true) = true :=
  ⟨⟨ends_reply _ _ _ (by decide), by decide⟩, by decide +kernel⟩

/-- A homed BOOM in PARKING at a park count and an arrival count. -/
def parkingAt (count arrival : Nat) (latch faulty : Bool) : State :=
  { joint .boom .parking with
    node := { (joint .boom .parking).node with homed := true, latch := latch }
    drive := { Drive.reset false false faulty with
      enable := true, brake := false, park := some { count := count, arrival := arrival } } }

/-- The same with its park angle far above and its max switch tripped. -/
def blockedPark (faulty : Bool) : State :=
  { parkingAt 0 0 false faulty with
    setup := { boomSetup with items := { boomItems with g3 := some { cushion := 1024, park := 8000 } } }
    drive := { (parkingAt 0 0 false faulty).drive with maxTripped := true } }

/-- What every clause of a PARKING sample needs: the move, and the inputs of its case. -/
def parksAt (m : ParkMove) (command : Int → Bool) (error : Nat) (faulty : Bool) (s : State) : Bool :=
  let smp := s.sampleFor request reply 1500
  let gap : Int := (geoG3 s.setup).park - smp.angle
  isJoint s.ident.role && samples s.node.state && s.sensor.inFlight == some request
    && s.node.state == .parking && s.drive.park == some m && s.drive.driveFault == faulty
    && s.gains.pages[(0 : PageNo)].gains.la == 64 && command (max (-64) (min 64 (gap * 8)))
    && gap.natAbs == error && smp.rate == 0 && s.link.slots.report == .empty

theorem witness_ParkingSamplesReachThePark :
    ((parkingAt 0 0 false false).ends request reply ∧ triggerValid reply = true)
      ∧ (parksAt ⟨0, 0⟩ (0 < ·) 8000 false (blockedPark false) = true
        ∧ (blockedPark false).drive.maxTripped = true)
      ∧ parksAt ⟨0, 0⟩ (· == 0) 0 true (parkingAt 0 0 false true) = true
      ∧ parksAt ⟨0, 0⟩ (0 < ·) 8000 true (blockedPark true) = true
      ∧ parksAt ⟨59998, 18⟩ (· == 0) 0 false (parkingAt 59998 18 false false) = true
      ∧ parksAt ⟨59999, 0⟩ (· == 0) 0 false (parkingAt 59999 0 false false) = true
      ∧ parksAt ⟨59999, 19⟩ (· == 0) 0 false (parkingAt 59999 19 false false) = true
      ∧ (parksAt ⟨100, 19⟩ (· == 0) 0 false (parkingAt 100 19 true false) = true
        ∧ (parkingAt 100 19 true false).node.latch = true
        ∧ holdCause ((parkingAt 100 19 true false).takenUp request reply 1500) = false)
      ∧ (let s := { parkingAt 100 19 true false with
            link := { (joint .boom .parking).link with health := .mute } };
        s.node.latch = true ∧ holdCause (s.takenUp request reply 1500) = true) :=
  ⟨⟨ends_reply _ _ _ (by decide), by decide⟩, by decide +kernel⟩

/-- A node whose min switch and DRIVE_FAULT stand as given. -/
def withInputs (tripped faulty : Bool) (s : State) : State :=
  { s with drive := { s.drive with minTripped := tripped, driveFault := faulty } }

theorem witness_SamplesJudgeTheDriveInputs :
    [(true, false), (false, true), (true, true)].all (fun x =>
        let s := withInputs x.1 x.2 (joint .pan .engaged)
        (s.takenUp request reply 1500).node.state == .engaged && !(geoG2 s.setup).continuous
          && s.drive.minTripped == x.1 && s.drive.driveFault == x.2) = true
      ∧ (withInputs true true (joint .pan .engaged)).ends request reply
      ∧ ((withInputs true false (joint .pan .hold)).ends request reply
        ∧ ((withInputs true false (joint .pan .hold)).takenUp request reply 1500).node.state = .hold)
      ∧ ((withInputs true true (joint .pan .fault)).ends request reply ∧ triggerValid reply = true
        ∧ (joint .pan .settling).ends request reply) :=
  ⟨by decide +kernel, ends_reply _ _ _ (by decide), ⟨ends_reply _ _ _ (by decide), by decide +kernel⟩,
    ends_reply _ _ _ (by decide), by decide, ends_reply _ _ _ (by decide)⟩

theorem witness_HoldEndsAfterFiftySamples :
    let s : State := { joint .pan .hold with node := { (joint .pan .hold).node with holdExit := 49 } }
    s.ends request reply ∧ s.node.state = .hold ∧ (s.takenUp request reply 1500).node.state = .hold
      ∧ s.node.holdExit = 49 ∧ holdCause (s.takenUp request reply 1500) = false
      ∧ anyTripped s = false ∧ s.link.slots.report = .empty ∧ s.gains.page = some 0
      ∧ isCoarse (joint .boom .hold).ident.role = true :=
  ⟨ends_reply _ _ _ (by decide), by decide, by decide +kernel, by decide, by decide +kernel, by decide,
    by decide, by decide, by decide⟩

/-- BASE in PARKED with its thresholds in use. -/
def baseParked : State :=
  { joint .base .parked with
    setup := { Setup.reset with items := baseItems 10 20, committed := true } }

theorem witness_BaseSamplesClassifyTheRoad :
    (baseParked.ends request reply ∧ baseParked.ident.role = .base ∧ baseParked.setup.committed = true
        ∧ baseParked.node.state ≠ .setup ∧ baseParked.link.slots.vehicle = .empty)
      ∧ (0 : Regime).val = 4 * [10, 20, 30, 40, 50, 60, 70].countP (· ≤ 0) + [1, 2, 3].countP (· ≤ 0)
      ∧ (thresholdsT1 baseParked.setup).s1 = 10 ∧ (thresholdsT2 baseParked.setup).s7 = 70
      ∧ (thresholdsT3 baseParked.setup).r1 = 1 ∧ baseParked.vref.published ≠ some 0 :=
  ⟨⟨ends_reply _ _ _ (by decide), by decide, by decide, by decide, by decide⟩, by decide⟩

theorem witness_RegimeAndSpeedFollowTheSample :
    (let s := { baseParked with vref := { VehicleRef.reset with candidate := some 0, debounce := 199 } };
      let u := s.atDelivery request reply 1500
      let v := (roughnessStep u.node.state (s.sampleFor request reply 1500) u).vref
      s.ends request reply ∧ s.ident.role = .base ∧ regimeRuns s.setup.committed u.node.state = true
        ∧ s.vref.candidate = some 0 ∧ s.vref.debounce = 199 ∧ s.vref.published ≠ some 0
        ∧ s.vref.pending = none
        ∧ classify s.setup (testSpeedTimeout request.sampleTime v).speed v.roughSum = 0)
      ∧ (let s := { baseParked with vref := { VehicleRef.reset with pending := some (3, 900) } };
        s.ends request reply ∧ s.vref.pending = some (3, 900)
          ∧ (request.sampleTime - (900 : Time)).toNat < 2147483648)
      ∧ (let s : State := { baseParked with
            node := { baseParked.node with state := .engaged }
            vref := { VehicleRef.reset with pending := some (3, 900) }
            gains := (switching .engaged none).gains };
        let u := s.atDelivery request reply 1500
        s.ends request reply ∧ regimeRuns s.setup.committed u.node.state = true
          ∧ u.node.state = .engaged ∧ u.gains.page ≠ some (chosenPage u.gains 3)
          ∧ u.drive.driveFault = false ∧ anyTripped u = false
          ∧ reversalCount (s.takenUp request reply 1500).sensor.ring ≤ 10)
      ∧ (let s := { baseParked with
            sensor := { Sensor.reset 0 with inFlight := some { request with sampleTime := 600000 } }
            vref := { VehicleRef.reset with lastSpeed := some 100000 } };
        s.ends { request with sampleTime := 600000 } reply ∧ s.vref.lastSpeed = some 100000
          ∧ 500000 ≤ ((600000 : Time) - 100000).toNat
          ∧ ((600000 : Time) - 100000).toNat < 2147483648) :=
  ⟨⟨ends_reply _ _ _ (by decide), by decide, by decide +kernel, by decide, by decide, by decide,
      by decide, by decide +kernel⟩,
    ⟨ends_reply _ _ _ (by decide), by decide, by decide⟩,
    ⟨ends_reply _ _ _ (by decide), by decide +kernel⟩, ends_reply _ _ _ (by decide), by decide,
    by decide, by decide⟩

theorem witness_BaseSamplesTurnTheAttitude :
    let s := { baseParked with vref := { VehicleRef.reset with running := true } }
    s.ends request reply
      ∧ (∃ r, reply = .reply r ∧ Instr.rateSensorReply still 1500 = .rateSensorReply r 1500)
      ∧ s.ident.role = .base ∧ s.vref.running = true ∧ s.setup.committed = true
      ∧ (s.atDelivery request reply 1500).node.state = .parked ∧ s.link.slots.vehicle = .empty :=
  ⟨ends_reply _ _ _ (by decide), ⟨_, rfl, rfl⟩, by decide, by decide, by decide, by decide +kernel,
    by decide⟩

/-- A PAN that holds a FRESH REPORT of age 5,000 µs at the sample time 1,000. -/
def agedReport : PeerPart ReportPayload :=
  { content := reportOf 2, capture := 1000, age := 5000, lastSeq := 0, fresh := .fresh }

theorem witness_PartsAndPendingRegimesAge :
    (let s := { joint .pan .parked with peers := { Peers.reset with
        entries := Peers.reset.entries.set 1 { PeerEntry.empty with report := some agedReport } } };
      s.ends request reply ∧ s.peers.entries[(1 : Fin 7)].report = some agedReport
        ∧ agedReport.fresh = .fresh
        ∧ (request.sampleTime - agedReport.capture).toInt + (agedReport.age.toNat : Int) = 5000)
      ∧ (let s := { joint .pan .parked with gains := { (joint .pan .parked).gains with
          pending := some (3, 1000) } };
        s.ends request reply ∧ s.ident.role ≠ .base
          ∧ directoryRuns (s.atDelivery request reply 1500).node.state = true
          ∧ s.gains.pending = some (3, 1000)
          ∧ (request.sampleTime - (1000 : Time)).toNat < 2147483648)
      ∧ (let s := { switching .engaged none with gains := { (switching .engaged none).gains with
          pending := some (3, 1000) } };
        let u := s.atDelivery request reply 1500
        s.ends request reply ∧ u.node.state = .engaged ∧ u.gains.page ≠ some (chosenPage u.gains 3)
          ∧ u.drive.driveFault = false ∧ anyTripped u = false
          ∧ reversalCount (s.takenUp request reply 1500).sensor.ring ≤ 10) :=
  ⟨⟨ends_reply _ _ _ (by decide), by decide +kernel, by decide, by decide⟩,
    ⟨ends_reply _ _ _ (by decide), by decide, by decide +kernel, by decide, by decide⟩,
    ends_reply _ _ _ (by decide), by decide +kernel⟩

/-- A homed joint in ENGAGED. -/
def engagedAt (r : Role) : State :=
  { joint r .engaged with
    node := { (joint r .engaged).node with homed := true }
    drive := { Drive.reset false false false with enable := true, brake := false } }

theorem witness_EngagedSamplesSendTheLoopCommand :
    let s := engagedAt .pan
    let u := s.takenUp request reply 1500
    let g := effectiveGains (aimSample .engaged request.sampleTime u).2.gains
    s.ends request reply
      ∧ (∃ r, reply = .reply r ∧ Instr.rateSensorReply still 1500 = .rateSensorReply r 1500)
      ∧ u.node.state = .engaged ∧ s.drive.driveFault = false ∧ anyTripped s = false
      ∧ reversalCount u.sensor.ring ≤ 10 ∧ 0 ≤ g.lr ∧ 0 ≤ g.la ∧ s.link.slots.report = .empty :=
  ⟨ends_reply _ _ _ (by decide), ⟨_, rfl, rfl⟩, by decide +kernel, by decide, by decide, by decide +kernel,
    by decide +kernel, by decide +kernel, by decide⟩

/-- A PAN in ENGAGED that holds a VEHICLE and an AIM in a mode, FRESH, at a loss state and a count. -/
def following (mode : Byte) (valid : Bool) (loss : Loss) (count : Nat) : State :=
  { engagedAt .pan with
    corr := { Correction.reset with loss := loss, reacquire := count }
    peers := { Peers.reset with entries := Peers.reset.entries.set 1 { PeerEntry.empty with
      vehicle := some { content := { vehicleAt 3 with valid := valid }, capture := 1000, age := 0
                        lastSeq := 0, fresh := .fresh }
      aim := some { content := { seq := 0, mode := mode, yaw := 0, pitch := 0, roll := 0, beta := 0 }
                    capture := 1000, age := 0, lastSeq := 0, fresh := .fresh } } } }

/-- The mode of the aim in use, the selections and the usable vehicle part at a sample. -/
def follows (s : State) : Mode × Option (Fin 7) × Option (Fin 7) × Bool :=
  let u := s.takenUp request reply 1500
  ((aimInUse u).mode, u.peers.selAim, u.peers.selVehicle, vehicleUsable u)

theorem witness_DemandFollowsTheMode :
    ((following 0 true .tracking 0).ends request reply
        ∧ follows (following 0 true .tracking 0) = (.stab, some 1, some 1, true)
        ∧ (following 0 true .tracking 0).setup.committed = true
        ∧ (following 0 true .tracking 0).ident.role ≠ .base)
      ∧ follows (following 1 true .tracking 0) = (.rigid, some 1, some 1, true)
      ∧ ((joint .base .parked).ends request reply
        ∧ follows (joint .base .parked) = (.stab, none, none, false)) :=
  ⟨⟨ends_reply _ _ _ (by decide), by decide +kernel, by decide, by decide⟩, by decide +kernel,
    ends_reply _ _ _ (by decide), by decide +kernel⟩

/-- A PAN in FAULT whose reacquire ramp was halted on leaving ENGAGED, or not. -/
def haltedAt (halted : Bool) : State :=
  { following 0 true .reacquiring 10 with
    node := { (following 0 true .reacquiring 10).node with state := .fault }
    corr := { (following 0 true .reacquiring 10).corr with rampHalted := halted } }

/-- A PAN in ENGAGED on a ramp whose next missed reading is the third in a row. -/
def missing : State :=
  { following 0 true .reacquiring 10 with
    sensor := { (following 0 true .reacquiring 10).sensor with misses := 2 } }

theorem witness_VehicleLossFreezesAndRamps :
    ((following 0 false .tracking 0).ends request reply
        ∧ follows (following 0 false .tracking 0) = (.stab, some 1, some 1, false)
        ∧ (following 0 false .tracking 0).ident.role ≠ .base)
      ∧ follows (following 0 false .frozen 0) = (.stab, some 1, some 1, false)
      ∧ (follows (following 0 true .reacquiring 63) = (.stab, some 1, some 1, true)
        ∧ (following 0 true .reacquiring 63).corr.loss = .reacquiring
        ∧ (following 0 true .reacquiring 63).corr.reacquire = 63
        ∧ ((following 0 true .reacquiring 63).takenUp request reply 1500).node.state ≠ .fault)
      ∧ (following 0 true .tracking 0).link.slots.report = .empty
      ∧ ((haltedAt true).ends request reply ∧ follows (haltedAt true) = (.stab, some 1, some 1, true)
        ∧ ((haltedAt true).takenUp request reply 1500).node.state = .fault
        ∧ (haltedAt true).node.state = .fault ∧ (haltedAt true).corr.rampHalted = true)
      ∧ ((haltedAt false).ends request reply ∧ (haltedAt false).corr.rampHalted = false)
      ∧ (missing.ends request badReply ∧ missing.node.state = .engaged
        ∧ (missing.takenUp request badReply 1500).node.state = .fault
        ∧ vehicleUsable (missing.takenUp request badReply 1500) = true) :=
  ⟨⟨ends_reply _ _ _ (by decide), by decide +kernel, by decide⟩, by decide +kernel, by decide +kernel,
    by decide, ⟨ends_reply _ _ _ (by decide), by decide +kernel⟩,
    ⟨ends_reply _ _ _ (by decide), by decide⟩, ends_reply _ _ _ (by decide), by decide +kernel⟩

/-- R14, R165: in FAULT a halted ramp keeps its j and one that began there advances. -/
theorem test_ramp_in_fault :
    leads (.rateSensorReply still 1500) (haltedAt true)
        (fun t => t.corr.reacquire == 10 && t.corr.loss == .reacquiring) = true
      ∧ leads (.rateSensorReply still 1500) (haltedAt false) (fun t => t.corr.reacquire == 11) = true := by
  decide +kernel

theorem witness_TargetsShareTheDemand :
    (isJoint (unheard .engaged).ident.role = true
        ∧ (unheard .engaged).peers.partner.bind (fun n => (unheard .engaged).peers.entries[n].report) ≠ none)
      ∧ (isJoint (joint .boom .engaged).ident.role = true ∧ (joint .boom .engaged).peers.partner = none)
      ∧ isJoint (joint .tilt .idle).ident.role = true
      ∧ (joint .boom .engaged).gains.page = some 0 := by decide +kernel

/-- A PAN in ENGAGED whose window lies below its demand. -/
def clamped : State :=
  { engagedAt .pan with
    setup := { boomSetup with items := { boomItems with
      g2 := some { min := -8000, max := -100, continuous := false } } }
    corr := { Correction.reset with strain := 99 } }

theorem witness_BlendsEndAndStrainIsMarked :
    (let s := { engagedAt .pan with gains := { (engagedAt .pan).gains with blend := 63 } };
      let u := s.takenUp request reply 1500
      s.ends request reply ∧ s.node.state = .engaged ∧ u.node.state = .engaged ∧ s.gains.blend = 63
        ∧ u.gains.blend = 63 ∧ s.drive.driveFault = false ∧ anyTripped s = false
        ∧ reversalCount u.sensor.ring ≤ 10)
      ∧ (let u := clamped.takenUp request reply 1500
        clamped.ends request reply ∧ u.node.state = .engaged ∧ clamped.node.state = .engaged
          ∧ clamped.corr.strain = 99 ∧ u.gains.page = some 0
          ∧ (aimSample .engaged request.sampleTime u).1.atMax = true) :=
  ⟨⟨ends_reply _ _ _ (by decide), by decide, by decide +kernel, by decide, by decide +kernel, by decide,
      by decide, by decide +kernel⟩,
    ends_reply _ _ _ (by decide), by decide +kernel, by decide, by decide, by decide +kernel,
    by decide +kernel⟩

/-- A PAN in ENGAGED on a page p that regime 3 names, with twelve reversals in its ring. -/
def ringing (p : PageNo) : State :=
  { engagedAt .pan with
    sensor := { Sensor.reset 0 with
      inFlight := some request, ring := List.replicate 12 { rough := 0, reversal := true } }
    gains := { (engagedAt .pan).gains with
      page := some p, regime := some 3
      entries := GainDir.reset.entries.set 3 { present := true, page := p, visited := true }
      pages := (engagedAt .pan).gains.pages.set p page0 } }

/-- Whether a state meets what the twelfth reversal needs on page p. -/
def ringsOn (p : PageNo) (s : State) : Bool :=
  let u := s.takenUp request reply 1500
  let a := aimSample .engaged request.sampleTime u
  let g := effectiveGains a.2.gains
  let smp := s.sampleFor request reply 1500
  let cmd := loopCommand s.setup g a.1.target u.corr.targetPrev u.corr.commandPrev smp.angle smp.rate
  s.node.state == .engaged && u.node.state == .engaged && !s.drive.driveFault && !anyTripped s
    && u.gains.page == some p && u.gains.regime == some 3
    && reversalCount (writeReversal (reversalFlag g.lr cmd u.corr.sign) u.sensor.ring) == 12
    && !s.gains.pages[p].withdrawn && u.gains.entries[(3 : Regime)].present
    && u.gains.entries[(3 : Regime)].page == p

theorem witness_TwelveReversalsWithdrawThePage :
    ((ringing 5).ends request reply ∧ ringsOn 5 (ringing 5) = true)
      ∧ (ringing 0).ends request reply ∧ ringsOn 0 (ringing 0) = true :=
  ⟨⟨ends_reply _ _ _ (by decide), by decide +kernel⟩, ends_reply _ _ _ (by decide), by decide +kernel⟩

theorem witness_ResolutionAndEffectiveGains :
    ((ringing 5).gains.entries[(3 : Regime)].present = true
        ∧ (ringing 5).gains.pages[(ringing 5).gains.entries[(3 : Regime)].page].present = true
        ∧ (ringing 5).gains.pages[(ringing 5).gains.entries[(3 : Regime)].page].withdrawn = false)
      ∧ (ringing 5).gains.entries[(4 : Regime)].present = false
      ∧ (4 : Regime) ≠ 3 ∧ (5 : PageNo) ≠ 0 ∧ (64 : Nat) ≤ 64 := by decide +kernel

end Sys2Proof.Tests
end

section
/-! The vehicle reference unit of BASE (chapter 6): the speed from a pulse (R104), and what a sample makes
of the attitude, the heading and the VEHICLE frame (R95 to R103, R111, R112). -/

namespace Sys2Proof.Machine

variable (s : State)

/-! ### The speed -/

/-- The first pulse gives no speed yet: there is no capture to take a period from (R104). -/
theorem speedPulse_of_no_capture (now : Time) (hb : s.ident.role = .base)
    (hr : regimeRuns s.setup.committed s.node.state = true) (hc : s.vref.lastSpeed = none) :
    speedPulse now s = s.setVref { s.vref with lastSpeed := some now } := by
  simp [speedPulse, hb, hr, hc]

/-- A pulse after the capture c gives the speed of the period since c (R104). -/
theorem speedPulse_of_capture (now : Time) (hb : s.ident.role = .base)
    (hr : regimeRuns s.setup.committed s.node.state = true) {c : Time}
    (hc : s.vref.lastSpeed = some c) :
    speedPulse now s = s.setVref { s.vref with
      speed := pulseSpeed (thresholdsT1 s.setup).pulse (elapsed now c), lastSpeed := some now } := by
  simp [speedPulse, hb, hr, hc]

/-- Settles O41: the row is one `speedPulse` at the uptime of the edge, with or without a last capture. -/
theorem speedEdgesGiveTheSpeed : Obligations.SpeedEdgesGiveTheSpeed := by
  intro s now hb hr
  have hexec : exec (.speedEdge now) s = .next (speedPulse now (s.setUptime now)) := rfl
  cases hc : s.vref.lastSpeed with
  | none => rw [hexec, speedPulse_of_no_capture (s.setUptime now) now hb hr hc]; rfl
  | some c => rw [hexec, speedPulse_of_capture (s.setUptime now) now hb hr hc]; rfl

/-! ### The arithmetic of the unit -/

/-- A clamp to a range is a minimum and a maximum. -/
theorem clamp_eq_max_min {lo hi : Int} (h : lo ≤ hi) (x : Int) : clamp lo hi x = max lo (min hi x) := by
  unfold clamp
  split
  · omega
  · split <;> omega

/-- The vehicle rates in the words of R96: raw less bias, saturated. -/
theorem correctedRates_eq (raw bias : Axes) : correctedRates raw bias =
    { yaw := max (-32767) (min 32767 (raw.yaw - bias.yaw))
      pitch := max (-32767) (min 32767 (raw.pitch - bias.pitch))
      roll := max (-32767) (min 32767 (raw.roll - bias.roll)) } := by
  simp [correctedRates, satRate, clamp_eq_max_min]

/-- The attitude after an integrated sample in the words of R97 and R98: yaw wraps, pitch and roll leak. -/
theorem integrate_eq (phi w : Axes) : integrate phi w =
    { yaw := Int.bmod (phi.yaw + w.yaw) 4194304
      pitch := max (-1048576) (min 1048576 (phi.pitch + w.pitch - Int.tdiv phi.pitch 4096))
      roll := max (-1048576) (min 1048576 (phi.roll + w.roll - Int.tdiv phi.roll 4096)) } := by
  simp [integrate, wrapFine, leakStep, clampFine, truncDiv, clamp_eq_max_min]

/-- A wrap modulo 65536 does not show in a 16-bit field. -/
theorem field16_wrapAngle (x : Int) : field16 (wrapAngle x) = field16 x :=
  BitVec.eq_of_toInt_eq (by simp [field16, wrapAngle, BitVec.toInt_ofInt])

/-! ### The state in which a sample is delivered -/

/-- A raised cause leaves a node in a state that delivers samples: its own, or FAULT (R14, R60). -/
theorem samples_raise (c : Cause) (h : samples s.node.state = true) :
    samples (raise c s).node.state = true := by
  obtain ⟨-, hr⟩ | ⟨-, hr⟩ | ⟨-, -, hr⟩ := raise_cases c s
  · rw [hr]; exact h
  · rw [hr]; rfl
  · rw [hr]; exact h

theorem samples_missReading (h : samples s.node.state = true) :
    samples (missReading s).node.state = true := by
  unfold missReading; dsimp only
  split
  · exact samples_raise _ _ h
  · exact h

/-- A judgement of the hold causes moves ENGAGED to HOLD at most (R160). -/
theorem samples_judgeHold (h : samples s.node.state = true) :
    samples (judgeHold s).node.state = true := by
  unfold judgeHold
  split
  · split
    · rfl
    · split <;> exact h
  · exact h

theorem samples_afterReading (tr : SampleTrigger) (now : Time) (h : samples s.node.state = true) :
    samples (s.afterReading tr now).node.state = true := by
  cases tr with
  | reply r =>
    unfold State.afterReading; dsimp only
    split
    · exact h
    · exact samples_missReading _ h
  | expiry m => exact samples_missReading _ h

/-- A sample is delivered in one of the states of R60. -/
theorem samples_atDelivery {q : Request} {tr : SampleTrigger} (h : s.ends q tr) (now : Time) :
    samples (s.atDelivery q tr now).node.state = true := by
  obtain ⟨-, hsamples, -⟩ := h
  exact samples_judgeHold _ (samples_afterReading s tr now hsamples)

@[simp] theorem atDelivery_ident (q : Request) (tr : SampleTrigger) (now : Time) :
    (s.atDelivery q tr now).ident = s.ident := by simp [State.atDelivery]
@[simp] theorem atDelivery_vref (q : Request) (tr : SampleTrigger) (now : Time) :
    (s.atDelivery q tr now).vref = s.vref := by simp [State.atDelivery]
@[simp] theorem atDelivery_setup (q : Request) (tr : SampleTrigger) (now : Time) :
    (s.atDelivery q tr now).setup = s.setup := by simp [State.atDelivery]
@[simp] theorem atDelivery_link (q : Request) (tr : SampleTrigger) (now : Time)
    (hc : s.ident.role ≠ .console) : (s.atDelivery q tr now).link = s.link := by
  simp [State.atDelivery, hc]

/-- Once committed, speed, roughness and regime run at every sample but one delivered in SETUP (R95). -/
theorem regimeRuns_of_samples {st : NodeState} (h : samples st = true) (hs : st ≠ .setup) :
    regimeRuns true st = true := by
  cases st <;> simp_all [samples, regimeRuns]

theorem regimeRuns_atDelivery {q : Request} {tr : SampleTrigger} (h : s.ends q tr) (now : Time)
    (hcom : s.setup.committed = true) (hs : (s.atDelivery q tr now).node.state ≠ .setup) :
    regimeRuns (s.atDelivery q tr now).setup.committed (s.atDelivery q tr now).node.state = true := by
  rw [atDelivery_setup, hcom]
  exact regimeRuns_of_samples (samples_atDelivery s h now) hs

/-! ### The attitude under the unit's other work -/

/-- The attitude, the heading reference, and whether the attitude runs: what R97 to R102 change. -/
def attitudeOf (v : VehicleRef) : Axes × Int × Bool := (v.phi, v.heading, v.running)

@[simp] theorem testSpeedTimeout_attitude (t : Time) (v : VehicleRef) :
    attitudeOf (testSpeedTimeout t v) = attitudeOf v := by
  unfold testSpeedTimeout; split <;> rfl

@[simp] theorem debounceStep_attitude (t : Time) (c : Regime) (v : VehicleRef) :
    attitudeOf (debounceStep t c v) = attitudeOf v := by
  unfold debounceStep; dsimp only
  split
  · rfl
  · split <;> split <;> rfl

@[simp] theorem roughnessStep_attitude (st : NodeState) (p : Sample) :
    attitudeOf (roughnessStep st p s).vref = attitudeOf s.vref := by
  unfold roughnessStep; dsimp only
  split <;> rfl

@[simp] theorem testEffect_attitude (t : Time) :
    attitudeOf (testEffect t s).vref = attitudeOf s.vref := by
  unfold testEffect
  split
  · split
    · rw [switchRegime_vref]; rfl
    · rfl
  · rfl

@[simp] theorem regimeStep_attitude (st : NodeState) (t : Time) :
    attitudeOf (regimeStep st t s).vref = attitudeOf s.vref := by
  unfold regimeStep
  split
  · simp
  · rfl

/-- Integrating turns the attitude and lets the heading follow it by the aim in use (R97 to R102). -/
theorem attitudeStep_attitude (st : NodeState) (x : Axes)
    (h : integrates s.setup.committed s.vref.running st = true) :
    attitudeOf (attitudeStep st x s).vref =
      (integrate s.vref.phi x,
        followHeading (aimInUse s) (integrate s.vref.phi x).yaw s.vref.heading, s.vref.running) := by
  simp [attitudeStep, h, attitudeOf]

/-- Of the unit's work for a sample the attitude step alone turns the attitude. -/
theorem vehicleSample_attitude (st : NodeState) (p : Sample) :
    attitudeOf (vehicleSample st p s).vref =
      attitudeOf (attitudeStep st (correctedRates p.raw p.bias) s).vref := by
  simp [vehicleSample]

/-! ### The VEHICLE frame -/

section Content

variable (st : NodeState) (w : Axes) (n : Byte)

theorem vehicleBody_valid :
    (vehicleBody st w s n).valid = (s.vref.running && !s.node.record.causes.getLsbD 6) := rfl

theorem vehicleBody_attYaw :
    (vehicleBody st w s n).attYaw = BitVec.ofInt 16 (Int.fdiv (s.vref.phi.yaw + 32) 64) :=
  field16_wrapAngle _

theorem vehicleBody_heading :
    (vehicleBody st w s n).heading = BitVec.ofInt 16 (Int.fdiv (s.vref.heading + 32) 64) :=
  field16_wrapAngle _

theorem vehicleBody_pendingPresent (h : regimeRuns s.setup.committed st = true) :
    (vehicleBody st w s n).pendingPresent = s.vref.pending.isSome := by
  simp [vehicleBody, h]

theorem vehicleBody_regime (h : regimeRuns s.setup.committed st = true) :
    (vehicleBody st w s n).regime = regimeByte s.vref.published := by
  simp [vehicleBody, h]

theorem vehicleBody_speed (h : regimeRuns s.setup.committed st = true) :
    (vehicleBody st w s n).speed = BitVec.ofNat 16 s.vref.speed := by
  simp [vehicleBody, h, nat16]

end Content

/-- An EMPTY VEHICLE slot takes the sample's frame with the next sequence (R24, R26, R111). The content
speaks of the unit as the sample leaves it. -/
theorem vehicleSample_slot (st : NodeState) (p : Sample) (h : s.link.slots.vehicle = .empty)
    (hr : regimeRuns s.setup.committed st = true) :
    let v := (vehicleSample st p s).vref
    (vehicleSample st p s).link.slots.vehicle =
      .armed { body := .vehicle (vehicleBody st (correctedRates p.raw p.bias) (s.setVref v)
                  s.link.seqs.vehicle)
               sampleTime := p.time
               effectTime := v.pending.map (·.2) } 0 := by
  simp [vehicleSample, armVehicle, armSlot, seqAt, slotAt, putSlot, armedSlot, h, hr, vehicleBody]

/-! ### The blocks after the unit -/

/-- The correction unit touches the vehicle reference unit only at the end of a bias capture (R66, R99). -/
theorem correctionSample_vref {st : NodeState} (p : Sample) (h : st ≠ .settling) :
    (correctionSample st p s).vref = s.vref := by
  unfold correctionSample
  split <;> simp [settlingSample, h]

/-- At a joint the correction unit arms the REPORT slot and leaves the VEHICLE slot. -/
theorem correctionSample_slots_vehicle (st : NodeState) (p : Sample) (hc : s.ident.role ≠ .console) :
    (correctionSample st p s).link.slots.vehicle = s.link.slots.vehicle := by
  unfold correctionSample
  split <;> simp [armReport, armSlot, putSlot, hc]

/-- At BASE the work after the unit leaves it as the sample did (R95, R114). -/
theorem runTrigger_vref_of_base {q : Request} {tr : SampleTrigger} (h : s.ends q tr) (now : Time)
    (hb : s.ident.role = .base) (hst : (s.atDelivery q tr now).node.state ≠ .settling) :
    (runTrigger tr now s).vref = (vehicleSample (s.atDelivery q tr now).node.state
      (s.sampleFor q tr now) (s.atDelivery q tr now)).vref := by
  simp [runTrigger_of_ends s h, handOn, correctionSample_vref _ _ hst, upstream, hb]

/-- At BASE the VEHICLE slot stays as the unit armed it. -/
theorem runTrigger_slots_vehicle_of_base {q : Request} {tr : SampleTrigger} (h : s.ends q tr)
    (now : Time) (hb : s.ident.role = .base) :
    (runTrigger tr now s).link.slots.vehicle = (vehicleSample (s.atDelivery q tr now).node.state
      (s.sampleFor q tr now) (s.atDelivery q tr now)).link.slots.vehicle := by
  rw [runTrigger_of_ends s h, thenRequest_link, handOn, holdExitStep_link,
    correctionSample_slots_vehicle _ _ _ (by simp [hb])]
  simp [upstream, hb]

/-- The two rows of a sample are the events of its triggers. -/
theorem eq_eventOf {tr : SampleTrigger} {now : Time} {i : Instr}
    (h : (∃ m, tr = .expiry m ∧ i = .sampleTimerExpiry m now)
      ∨ (∃ r, tr = .reply r ∧ i = .rateSensorReply r now)) : i = eventOf tr now := by
  obtain ⟨m, rfl, rfl⟩ | ⟨r, rfl, rfl⟩ := h <;> rfl

/-- A sample at BASE with the attitude running turns it, and the heading follows (R97 to R102). -/
theorem runTrigger_attitude_of_base {q : Request} {tr : SampleTrigger} (h : s.ends q tr) (now : Time)
    (hb : s.ident.role = .base) (hrun : s.vref.running = true)
    (hr : regimeRuns (s.atDelivery q tr now).setup.committed (s.atDelivery q tr now).node.state = true)
    (hst : (s.atDelivery q tr now).node.state ≠ .settling) :
    let p := s.sampleFor q tr now
    let phi := integrate s.vref.phi (correctedRates p.raw p.bias)
    attitudeOf (runTrigger tr now s).vref =
      (phi, followHeading (aimInUse (s.atDelivery q tr now)) phi.yaw s.vref.heading, true) := by
  have hturns : integrates (s.atDelivery q tr now).setup.committed (s.atDelivery q tr now).vref.running
      (s.atDelivery q tr now).node.state = true := by
    rw [atDelivery_vref, hrun, integrates, hr]; simpa using hst
  rw [runTrigger_vref_of_base s h now hb hst, vehicleSample_attitude,
    attitudeStep_attitude _ _ _ hturns, atDelivery_vref, hrun]

/-- A sample at BASE arms an EMPTY VEHICLE slot with the unit as it stands after the sample (R111). -/
theorem runTrigger_slot_of_base {q : Request} {tr : SampleTrigger} (h : s.ends q tr) (now : Time)
    (hb : s.ident.role = .base) (hempty : s.link.slots.vehicle = .empty)
    (hr : regimeRuns (s.atDelivery q tr now).setup.committed (s.atDelivery q tr now).node.state = true)
    (hst : (s.atDelivery q tr now).node.state ≠ .settling) :
    let u := s.atDelivery q tr now
    let p := s.sampleFor q tr now
    let v := (runTrigger tr now s).vref
    (runTrigger tr now s).link.slots.vehicle =
      .armed { body := .vehicle (vehicleBody u.node.state (correctedRates p.raw p.bias) (u.setVref v)
                  s.link.seqs.vehicle)
               sampleTime := q.sampleTime
               effectTime := v.pending.map (·.2) } 0 := by
  have hlink : (s.atDelivery q tr now).link = s.link := atDelivery_link s q tr now (by simp [hb])
  have hslot := vehicleSample_slot (s.atDelivery q tr now) _ (s.sampleFor q tr now)
    (hlink ▸ hempty) hr
  dsimp only
  rw [runTrigger_slots_vehicle_of_base s h now hb, hslot, hlink,
    runTrigger_vref_of_base s h now hb hst]
  rfl

/-- Settles O52: the unit's attitude after the trigger, then the frame in its slot field by field. -/
theorem baseSamplesTurnTheAttitude : Obligations.BaseSamplesTurnTheAttitude := by
  intro s q tr now i hends hi hb hrun hcom u hsetup hsettling smp rate leaky yaw aim
  have hruns : regimeRuns u.setup.committed u.node.state = true :=
    regimeRuns_atDelivery s hends now hcom hsetup
  obtain ⟨hphi, hheading, hrunning⟩ : _ ∧ _ ∧ _ := by
    simpa only [attitudeOf, Prod.mk.injEq, correctedRates_eq, integrate_eq] using
      runTrigger_attitude_of_base s hends now hb hrun hruns hsettling
  refine ⟨runTrigger tr now s, eq_eventOf hi ▸ exec_eventOf s tr now, hphi, hheading, hrunning, ?_⟩
  intro hempty
  have hslot := runTrigger_slot_of_base s hends now hb hempty hruns hsettling
  have hbody : regimeRuns (u.setVref (runTrigger tr now s).vref).setup.committed u.node.state = true :=
    hruns
  refine ⟨_, hslot, rfl, ?valid, vehicleBody_pendingPresent _ _ _ _ hbody, ?regime, ?attYaw, rfl,
    ?rateYaw, vehicleBody_heading _ _ _ _, vehicleBody_speed _ _ _ _ hbody⟩
  case valid => rw [vehicleBody_valid, State.setVref_vref, hrunning]; rfl
  case regime =>
    rw [vehicleBody_regime _ _ _ _ hbody, State.setVref_vref]
    cases (runTrigger tr now s).vref.published <;> rfl
  case attYaw => rw [vehicleBody_attYaw, State.setVref_vref, hphi]
  case rateYaw => rw [correctedRates_eq]; rfl

end Sys2Proof.Machine
end

section
/-! The console unit at a LIVE sample (chapter 10): the aim steps, the mode follows the switch and the AIM
slot is armed (R170 to R174). -/

namespace Sys2Proof.Machine

variable (s : State)

/-! ### The arithmetic of the aim -/

/-- A clamp to an aim limit is a minimum and a maximum: a limit is not negative. -/
theorem clamp_limit_eq (l : Nat) (x : Int) : clamp (-(l : Int)) l x = max (-(l : Int)) (min (l : Int) x) :=
  clamp_eq_max_min (by omega) x

/-- The step count of a wheel in the words of R171. -/
theorem stepCount_eq (counter last : Half) :
    stepCount counter last = max (-127) (min 127 (counter - last).toInt) :=
  clamp_eq_max_min (by decide) _

/-- The aim after a step in the words of R171 and R172: yaw wraps, pitch and roll keep to their limits. -/
theorem steppedAim_eq (scales : Axes) (limits : ItemC2) (c : Console) : steppedAim scales limits c =
    let n (a b : Half) : Int := max (-127) (min 127 (a - b).toInt)
    let p : Int := limits.pitchLimit
    let r : Int := limits.rollLimit
    { yaw := Int.bmod (c.aim.yaw + Int.tdiv (n c.counters.yaw c.last.yaw * scales.yaw) 16) 65536
      pitch := max (-p) (min p
        (c.aim.pitch + Int.tdiv (n c.counters.pitch c.last.pitch * scales.pitch) 16))
      roll := max (-r) (min r
        (c.aim.roll + Int.tdiv (n c.counters.roll c.last.roll * scales.roll) 16)) } := by
  simp only [steppedAim, wrapAngle, clamp_limit_eq, aimStep, truncDiv, stepCount_eq]

/-- The mode byte of an AIM after the switch is read: 1 for RIGID, 0 for STAB (R173, R191). -/
theorem modeByte_of_switch (modeHigh : Bool) :
    BitVec.ofNat 8 (modeCode (if modeHigh then .rigid else .stab)) = if modeHigh then 1 else 0 := by
  cases modeHigh <;> rfl

/-! ### The sample -/

/-- In LIVE a sample evaluates the peer table and steps the aim (R59, R170). -/
theorem consoleSample_of_live (m : Bool) (t : Time) (hlive : s.node.state = .live) :
    consoleSample m t s = liveSample m t (s.setPeers (evaluatePeers s.ident.role t s.peers)) := by
  simp [consoleSample, hlive]

/-- A CONSOLE past its self-check does its own work at an expiry, and requests no reading (R60). -/
theorem timerExpires_of_console (m : Bool) (now : Time) (hrole : s.ident.role = .console)
    (htimer : s.sensor.timer ≠ none) (hcheck : s.node.state ≠ .selfcheck) :
    timerExpires m now s = consoleSample m now (s.setUptime now) := by
  simp [timerExpires, expiryWork, hrole, htimer, hcheck]

/-- Settles O17: the expiry is one LIVE sample on the evaluated peer table; its aim and its mode byte are
those of R172 and R173. -/
theorem liveConsoleSendsItsAim : Obligations.LiveConsoleSendsItsAim := by
  intro m now s hrole hlive htimer c scales limits n p r aim
  have haim : steppedAim (consoleScales s.setup) (consoleLimits s.setup) s.console = aim :=
    steppedAim_eq _ _ _
  have hexec : exec (.sampleTimerExpiry m now) s = .next (timerExpires m now s) := rfl
  rw [hexec, timerExpires_of_console s m now hrole htimer (by simp [hlive]),
    consoleSample_of_live (s.setUptime now) m now hlive]
  simp only [liveSample, aimBody, modeByte_of_switch, State.setPeers_setup, State.setUptime_setup,
    State.setPeers_console, State.setUptime_console, State.setUptime_ident, hrole, haim]
  rfl

end Sys2Proof.Machine
end
